-- ==== Sys2Proof/Word.lean ====
section
/-! DEFINITION. The word types of PFPM: bytes, the 13-bit input word EVT13, the 52-byte frame and the 2 × 8 sample batch.

The dimensions 52 (`L`), 2 (`N_T`), 8 (`N_CH`), 24 (`SAMPLE_BITS`) and 8 (`SEQ_BITS`) of spec/00_scope.md R5 are the same
in every instance of the block, so they stand in the types as numerals. -/

namespace Sys2Proof

/-- One byte, bit 7 most significant (spec/20_memory.md R42). -/
abbrev Byte := BitVec 8

/-- The input word sampled at one clock edge (spec/30_encoding.md R57). -/
abbrev Evt13 := BitVec 13

/-- The frame buffer `F`: one byte at each of the offsets 0 to 51, byte 0 first on the wire
(spec/20_memory.md R40, spec/30_encoding.md R63). -/
abbrev Frame := Vector Byte 52

/-- A batch: `batch t c` is the sample of sampling instant `t` and channel `c`, an exact signed integer
(spec/40_sample_generator.md R75, spec/00_scope.md R8). It lives inside one `TICK` step only and is no state
(spec/10_state.md R28). -/
abbrev Batch := Fin 2 → Fin 8 → Int

end Sys2Proof
end

