-- ==== Sys2Proof/Syntax.lean ====
section
/-! DEFINITION. The nine operations of PFPM (spec/00_scope.md R2), the input pins that select them
(spec/10_state.md R29), and the trace notation the spec writes input sequences in (spec/30_encoding.md R66, R67). -/

namespace Sys2Proof

/-- The nine operations, one per row of spec/opcode_table.json. Only `CMD_IGN` carries an operand: the received byte. -/
inductive Instr where
  /-- `RESET` (spec/70_reset_and_hazards.md R150). -/
  | reset
  /-- `DISCONNECT` (spec/42_power_mode_controller.md R107). -/
  | disconnect
  /-- `CONNECT` (spec/42_power_mode_controller.md R106). -/
  | connect
  /-- `CMD_B`, the received byte `b` (spec/42_power_mode_controller.md R102). -/
  | cmdB
  /-- `CMD_S`, the received byte `s` (spec/42_power_mode_controller.md R103). -/
  | cmdS
  /-- `CMD_D`, the received byte `d` (spec/42_power_mode_controller.md R104). -/
  | cmdD
  /-- `CMD_IGN`, any other received byte (spec/42_power_mode_controller.md R105). -/
  | cmdIgn (rxByte : Byte)
  /-- `TICK` (spec/43_dispatch.md R120). -/
  | tick
  /-- `NOP` (spec/43_dispatch.md R121). -/
  | nop
deriving DecidableEq, Repr

/-- The data and strobe inputs of the block (spec/10_state.md R29), beside the clock, whose rising edge is a step. -/
structure InputPins where
  rst : Bool
  evDisconnect : Bool
  evConnect : Bool
  rxValid : Bool
  tick : Bool
  rxByte : Byte
deriving DecidableEq, Repr

/-- An item of the trace notation (spec/30_encoding.md R66, R67). A printable character other than `b`, `s`, `d` is
written `rx` of its code. -/
inductive Item where
  | reset
  | disconnect
  | connect
  | b
  | s
  | d
  | rx (byte : Byte)
  | tick
  | nop
  | word (w : Evt13)
  /-- `item*N`: the item in `N` consecutive steps. -/
  | times (item : Item) (n : Nat)
deriving DecidableEq, Repr

end Sys2Proof
end

