-- ==== Sys2Proof/WellFormed.lean ====
section
/-! DEFINITION. Which terms of `Instr` stand for an operation: all of them, but a `CMD_IGN` whose byte is one of the three
command bytes (spec/30_encoding.md R56, R58). -/

namespace Sys2Proof

/-- The three recognised command bytes, `b`, `s` and `d` (spec/30_encoding.md R56). -/
def isCommandByte (b : Byte) : Bool :=
  b == 0x62 || b == 0x73 || b == 0x64

/-- Well-formed: the byte of `CMD_IGN` is one of the other 253 values. -/
def Instr.wf : Instr → Bool
  | .cmdIgn rxByte => !isCommandByte rxByte
  | .reset | .disconnect | .connect | .cmdB | .cmdS | .cmdD | .tick | .nop => true

end Sys2Proof
end

