-- ==== Sys2Proof/Decode.lean ====
section
/-! DEFINITION. The input word EVT13 (spec/30_encoding.md R57), the decoder (R58), the opcode rows (R59) and the encoder,
written from the same tables. -/

namespace Sys2Proof

/-! ## The layout of EVT13 (spec/30_encoding.md R57) -/

/-- Bit 12. -/
def Evt13.rst (w : Evt13) : Bool := w.getLsbD 12
/-- Bit 11. -/
def Evt13.evDisconnect (w : Evt13) : Bool := w.getLsbD 11
/-- Bit 10. -/
def Evt13.evConnect (w : Evt13) : Bool := w.getLsbD 10
/-- Bit 9. -/
def Evt13.rxValid (w : Evt13) : Bool := w.getLsbD 9
/-- Bit 8. -/
def Evt13.tick (w : Evt13) : Bool := w.getLsbD 8
/-- Bits 7 to 0. -/
def Evt13.rxByte (w : Evt13) : Byte := w.extractLsb' 0 8

/-- The word the input pins form, bit 12 first. -/
def InputPins.word (p : InputPins) : Evt13 :=
  BitVec.ofBool p.rst ++ (BitVec.ofBool p.evDisconnect ++ (BitVec.ofBool p.evConnect ++
    (BitVec.ofBool p.rxValid ++ (BitVec.ofBool p.tick ++ p.rxByte))))

/-- The pins a word was sampled from. -/
def Evt13.pins (w : Evt13) : InputPins where
  rst := Evt13.rst w
  evDisconnect := Evt13.evDisconnect w
  evConnect := Evt13.evConnect w
  rxValid := Evt13.rxValid w
  tick := Evt13.tick w
  rxByte := Evt13.rxByte w

/-! ## The decoder (spec/30_encoding.md R58) -/

/-- The operation of a step: the first line of R58 that matches. Every word selects one. -/
def decode (w : Evt13) : Instr :=
  if Evt13.rst w then .reset
  else if Evt13.evDisconnect w then .disconnect
  else if Evt13.evConnect w then .connect
  else if Evt13.rxValid w && Evt13.rxByte w == 0x62 then .cmdB
  else if Evt13.rxValid w && Evt13.rxByte w == 0x73 then .cmdS
  else if Evt13.rxValid w && Evt13.rxByte w == 0x64 then .cmdD
  else if Evt13.rxValid w then .cmdIgn (Evt13.rxByte w)
  else if Evt13.tick w then .tick
  else .nop

/-- Why a number is no input word. -/
inductive DecodeError where
  /-- A bit above bit 12 is set: the number is wider than EVT13. No 13-bit word is rejected (spec/30_encoding.md R58, R60).
  Safe: the pins carry no such word. -/
  | widerThanEvt13
deriving DecidableEq, Repr

/-- The decoder over numbers: one that does not fit 13 bits is rejected by name. -/
def decodeNat (n : Nat) : Except DecodeError Instr :=
  if n < 2 ^ 13 then .ok (decode (BitVec.ofNat 13 n)) else .error .widerThanEvt13

/-- The host's reading of the decoder: the instruction whose bits are the low `nbits` bits of `w`. -/
def decodeTableWord (nbits w : Nat) : Option Instr :=
  match decodeNat (w % 2 ^ nbits) with
  | .ok i => some i
  | .error _ => none

/-! ## The opcode rows (spec/30_encoding.md R59) -/

/-- One row of the opcode map: a word is the row's when `w & mask = value`. -/
structure OpRow where
  mnemonic : String
  mask : Evt13
  value : Evt13
deriving DecidableEq, Repr

/-- `w & mask = match`. -/
def OpRow.hits (r : OpRow) (w : Evt13) : Bool := w &&& r.mask == r.value

/-- The nine rows, in the decoder's order. -/
def opRows : List OpRow :=
  [ ⟨"RESET", 0x1000, 0x1000⟩, ⟨"DISCONNECT", 0x1800, 0x0800⟩, ⟨"CONNECT", 0x1C00, 0x0400⟩,
    ⟨"CMD_B", 0x1EFF, 0x0262⟩, ⟨"CMD_S", 0x1EFF, 0x0273⟩, ⟨"CMD_D", 0x1EFF, 0x0264⟩,
    ⟨"CMD_IGN", 0x1E00, 0x0200⟩, ⟨"TICK", 0x1F00, 0x0100⟩, ⟨"NOP", 0x1F00, 0x0000⟩ ]

/-- The table's name of an operation. -/
def Instr.mnemonic : Instr → String
  | .reset => "RESET"
  | .disconnect => "DISCONNECT"
  | .connect => "CONNECT"
  | .cmdB => "CMD_B"
  | .cmdS => "CMD_S"
  | .cmdD => "CMD_D"
  | .cmdIgn _ => "CMD_IGN"
  | .tick => "TICK"
  | .nop => "NOP"

/-! ## The encoder (spec/30_encoding.md R56, R57, R66) -/

/-- A word with `rx_valid` alone and the given byte. -/
def rxWord (byte : Byte) : Evt13 :=
  InputPins.word { rst := false, evDisconnect := false, evConnect := false, rxValid := true, tick := false, rxByte := byte }

/-- The word of the trace notation that selects the operation: exactly its own strobe set, ignored bits 0 (R66). -/
def encode : Instr → Evt13
  | .reset => 0x1000
  | .disconnect => 0x0800
  | .connect => 0x0400
  | .cmdB => rxWord 0x62
  | .cmdS => rxWord 0x73
  | .cmdD => rxWord 0x64
  | .cmdIgn byte => rxWord byte
  | .tick => 0x0100
  | .nop => 0x0000

/-- The input words an item of the trace notation stands for, one per step (R66, R67). -/
def Item.words : Item → List Evt13
  | .reset => [0x1000]
  | .disconnect => [0x0800]
  | .connect => [0x0400]
  | .b => [0x0262]
  | .s => [0x0273]
  | .d => [0x0264]
  | .rx byte => [rxWord byte]
  | .tick => [0x0100]
  | .nop => [0x0000]
  | .word w => [w]
  | .times item n => (List.replicate n item.words).flatten

end Sys2Proof
end

