-- ==== Sys2Proof/Config.lean ====
section
/-! DEFINITION. The configuration of one PFPM instance: the open parameters of spec/00_scope.md R6 and the three widths of
R7, with the constraints those rules put on them. A configuration is fixed before reset and never changes during a run
(spec/70_reset_and_hazards.md R152). -/

namespace Sys2Proof

/-- The nine parameters as numbers, not yet checked. The three widths default as spec/00_scope.md R7 gives them; the
parameters of R6 have no default. -/
structure ConfigArgs where
  /-- `START_MARKER`, any byte. -/
  startMarker : Byte
  /-- `END_MARKER`, any byte; it may equal the start marker. -/
  endMarker : Byte
  /-- `AMPLITUDE`, written `A`. -/
  amplitude : Nat
  /-- `INTERVAL_FAST`, a unit-less integer the block never interprets (spec/30_encoding.md R62). -/
  intervalFast : Nat
  /-- `INTERVAL_MEDIUM`. -/
  intervalMedium : Nat
  /-- `INTERVAL_SLOW`. -/
  intervalSlow : Nat
  /-- `TICK_WIDTH`, the width of the `TICK` counter in bits. -/
  tickWidth : Nat := 32
  /-- `SAMPLE_IN_WIDTH`, the width of a signed sample at the encoder's input. -/
  sampleInWidth : Nat := 32
  /-- `INTERVAL_WIDTH`, the width of the timing-request value. -/
  intervalWidth : Nat := 16
deriving DecidableEq, Repr

/-- The constraints of spec/00_scope.md R6 and R7: `1 ≤ A ≤ 2^23 - 1`, the three intervals rise and fit
`INTERVAL_WIDTH` bits, `TICK_WIDTH ≥ 8`, `SAMPLE_IN_WIDTH ≥ 24`. -/
def ConfigArgs.wf (c : ConfigArgs) : Bool :=
  decide (1 ≤ c.amplitude ∧ c.amplitude ≤ 2 ^ 23 - 1 ∧
    c.intervalFast < c.intervalMedium ∧ c.intervalMedium < c.intervalSlow ∧
    c.intervalSlow < 2 ^ c.intervalWidth ∧ 8 ≤ c.tickWidth ∧ 24 ≤ c.sampleInWidth)

/-- A well-formed configuration: the parameters with the check that they meet their constraints. An ill-formed
configuration is refused (spec/93_implementation_defined.md U6) by having no value of this type (log entry 3). -/
structure Config extends ConfigArgs where
  ok : toConfigArgs.wf = true := by decide
deriving DecidableEq, Repr

/-- A well-formed configuration, named only to show that there is one: `Config.board` says nothing of its values. -/
def Config.smallest : Config :=
  { startMarker := 0, endMarker := 0, amplitude := 1, intervalFast := 0, intervalMedium := 1, intervalSlow := 2 }

/-- Some well-formed configuration (there is one), which nothing in Lean can evaluate. -/
opaque Config.chosen [Inhabited Config] : Config

/-- The configuration of the instance `State.reset` belongs to: the spec leaves its values open (spec/00_scope.md R6,
spec/92_eei_decisions.md D21), so it is an uninterpreted constant (log entry 2). -/
def Config.board : Config := @Config.chosen ⟨Config.smallest⟩

end Sys2Proof
end

