-- ==== Sys2Proof/Machine/State.lean ====
section
/-! DEFINITION. The state of PFPM: the five registers of spec/10_state.md R20, and beside them three fields of the model's
own: the instance's configuration, the output of the last step, and the input words the environment has still to present. -/

namespace Sys2Proof.Machine

/-- The power mode (spec/10_state.md R22). There is no fourth value (spec/90_conflicts.md C6). -/
inductive Mode where
  | streaming
  | idle
  | sleep
deriving DecidableEq, Repr

/-- What one step emits (spec/00_scope.md R9): nothing, one timing request, or one frame. While nothing is emitted the data
outputs have no value (spec/93_implementation_defined.md U1). -/
inductive Output where
  /-- Neither output: `req_valid` and `tx_valid` are 0. -/
  | silent
  /-- `emit req(v)`: `req_valid` is 1 and `req_interval` is `v`. -/
  | req (v : Nat)
  /-- `emit tx(F)`: `tx_valid` is 1 and `tx_frame` is `F`. -/
  | tx (f : Frame)
deriving DecidableEq, Repr

/-- The faults of the block: none. "The block raises no exception, trap or fault" (spec/60_exceptions.md R130), so the type
has no constructor and no meaning can raise one. Safe (log entry 8). -/
inductive Fault where
deriving DecidableEq, Repr

/-- Why an instruction has no meaning. -/
inductive Refusal where
  /-- Raised only by an arm of `exec` for an instruction not modelled yet; no arm raises it. Safe. -/
  | notModelled (mnemonic : String)
deriving DecidableEq, Repr

/-- The machine's state. `conn` to `tick` are the five registers, the whole architectural state (spec/10_state.md R20). -/
structure State where
  /-- The model's own field: the configuration of this instance, which no step changes (log entry 2). -/
  cfg : Config
  /-- `CONN`: 0 = Disconnected, 1 = Connected (R21). -/
  conn : Bool
  /-- `MODE` (R22). -/
  mode : Mode
  /-- `EN`, the Streaming Gate: 1 = open (R23). -/
  en : Bool
  /-- `SEQ`, the sequence number the next frame will carry (R24). -/
  seq : BitVec 8
  /-- `TICK`, the generator's counter, below `2^TICK_WIDTH` (R25, log entry 5). -/
  tick : Nat
  /-- The model's own field: what the step that led here emitted, the registered event outputs of R32 during the cycle that
  follows the step. No operation reads it (log entry 4). -/
  out : Output
  /-- The model's own field: the input words of the coming clock edges, the next one first. After the last of them the
  environment presents no strobe (log entry 1). -/
  inputs : List Evt13
deriving DecidableEq, Repr

/-- The state right after a `RESET` step of the instance with configuration `c` (spec/70_reset_and_hazards.md R151), with no
input word listed. -/
def State.resetWith (c : Config) : State where
  cfg := c
  conn := false
  mode := .idle
  en := false
  seq := 0
  tick := 0
  out := .silent
  inputs := []

/-- The machine right after reset. -/
def State.reset : State := State.resetWith Config.board

end Sys2Proof.Machine
end

