-- ==== Sys2Proof/Machine/Flags.lean ====
section
/-! DEFINITION. The condition bits. The block has no arithmetic flag (spec/10_state.md R27, spec/44_arithmetic_and_absent_classes.md
R126); its conditions are `CONN` and `EN`, and what each power mode stands for (spec/42_power_mode_controller.md R100). -/

namespace Sys2Proof.Machine

/-- `CONN = 1 and EN = 1`, the test of `TICK` (spec/43_dispatch.md R120). -/
def gateOpen (s : State) : Bool := s.conn && s.en

/-- `Gate(mode)`, the value a command leaves in `EN` (spec/42_power_mode_controller.md R100). -/
def gateOf : Mode → Bool
  | .streaming => true
  | .idle | .sleep => false

/-- `Interval(mode)`, the timing parameter bound to a mode (spec/42_power_mode_controller.md R100). -/
def intervalOf (c : Config) : Mode → Nat
  | .streaming => c.intervalFast
  | .idle => c.intervalMedium
  | .sleep => c.intervalSlow

/-- MODE2, the mode's two-bit code on `st_mode` (spec/30_encoding.md R61). -/
def modeBits : Mode → BitVec 2
  | .streaming => 0
  | .idle => 1
  | .sleep => 2

end Sys2Proof.Machine
end

