-- ==== Sys2Proof/Machine/Operands.lean ====
section
/-! DEFINITION. Bit fields and the S24 operand: the number conventions of spec/00_scope.md R8 and `Pack24` of
spec/41_frame_encoder.md R86. -/

namespace Sys2Proof.Machine

/-- `v[lo+7 : lo]`, one byte of an unsigned number (spec/00_scope.md R8). -/
def byteField (v lo : Nat) : Byte := BitVec.ofNat 8 (v / 2 ^ lo)

/-- `trunc_N(v) = v mod 2^N`, the unsigned `N`-bit pattern of an integer (spec/00_scope.md R8). -/
def trunc (n : Nat) (v : Int) : Nat := (v % 2 ^ n).toNat

/-- `sext_N(p)`: the `N`-bit pattern `p` read as two's complement (spec/00_scope.md R8). -/
def sext (n p : Nat) : Int := if p < 2 ^ (n - 1) then p else (p : Int) - 2 ^ n

/-- A sample as it reaches the encoder through its signed input of `w` bits (spec/40_sample_generator.md R78,
`SAMPLE_IN_WIDTH`). -/
def sampleIn (w : Nat) (v : Int) : Int := sext w (trunc w v)

/-- `Pack24(v)`: the low 24 bits of the sample, most significant byte first; it wraps and never saturates
(spec/41_frame_encoder.md R86, R90). -/
def pack24 (v : Int) : Byte × Byte × Byte :=
  (byteField (trunc 24 v) 16, byteField (trunc 24 v) 8, byteField (trunc 24 v) 0)

end Sys2Proof.Machine
end

