-- ==== Sys2Proof/Machine/Ops.lean ====
section
/-! DEFINITION. The named operations over the frame buffer, the registers, the output and the input words. -/

namespace Sys2Proof.Machine

/-! ## The frame buffer -/

/-- `MemWrite(a, n, v)`: the `n`-byte number `v` at offsets `a` to `a + n - 1`, most significant byte at `a`
(spec/00_scope.md R9). Every offset written exists: no rule forms one above 51 (spec/20_memory.md R40). -/
def memWrite (f : Frame) (a : Nat) : (n v : Nat) → a + n ≤ 52 → Frame
  | 0, _, _ => f
  | n + 1, v, h => memWrite (f.set a (byteField v (8 * n)) (by omega)) (a + 1) n v (by omega)

/-! ## The registers -/

/-- Write `CONN`, `MODE` and `EN` together: what the link events and `RESET` force, whatever the controller was doing
(spec/60_exceptions.md R134). Nothing of the old values is saved. -/
def forceController (conn : Bool) (mode : Mode) (en : Bool) (s : State) : State :=
  { s with conn := conn, mode := mode, en := en }

/-- A command's register writes: `MODE` and the gate that goes with it (spec/42_power_mode_controller.md R101). -/
def setMode (target : Mode) (s : State) : State :=
  { s with mode := target, en := gateOf target }

/-- `SEQ <- (SEQ + 1) mod 256` and `TICK <- (TICK + 1) mod 2^TICK_WIDTH` (spec/43_dispatch.md R120). -/
def advanceCounters (s : State) : State :=
  { s with seq := s.seq + 1, tick := (s.tick + 1) % 2 ^ s.cfg.tickWidth }

/-- `SEQ <- 0` and `TICK <- 0`, which only `RESET` does (spec/70_reset_and_hazards.md R150). -/
def clearCounters (s : State) : State :=
  { s with seq := 0, tick := 0 }

/-! ## The output and the input -/

/-- Drive the event outputs of the step: every operation drives them once, `silent` where it emits nothing
(spec/10_state.md R32). -/
def emit (o : Output) (s : State) : State :=
  { s with out := o }

/-- The input word sampled at the coming clock edge: the first listed word, or no strobe where none is listed, the `NOP`
executed between events (spec/44_arithmetic_and_absent_classes.md R129, log entry 1). -/
def sampledWord (s : State) : Evt13 := s.inputs.headD 0

/-- The sampled word has no effect at any later edge (spec/20_memory.md R45). -/
def consumeInput (s : State) : State :=
  { s with inputs := s.inputs.tail }

/-- Present `w` at the coming clock edge in place of the word that stood there. -/
def presentInput (w : Evt13) (s : State) : State :=
  { s with inputs := w :: s.inputs.tail }

end Sys2Proof.Machine
end

