-- ==== Sys2Proof/Machine/FrameEncoder.lean ====
section
/-! DEFINITION. The Frame Encoder (spec/41_frame_encoder.md): `Encode` as a pure function of the sequence number, the batch
and the two marker bytes, the payload and the checksum. -/

namespace Sys2Proof.Machine

/-- The sampling instants, in payload order (spec/20_memory.md R41). -/
def instants : List (Fin 2) := [0, 1]

/-- The channels, in payload order. -/
def channels : List (Fin 8) := [0, 1, 2, 3, 4, 5, 6, 7]

/-- The offset of a sample, the block's one address form (spec/44_arithmetic_and_absent_classes.md R128). -/
def sampleOffset (t : Fin 2) (ch : Fin 8) : Nat := 2 + 24 * t.val + 3 * ch.val

/-- A sample's three bytes lie inside the payload. -/
theorem sampleOffset_in_payload (t : Fin 2) (ch : Fin 8) :
    2 ≤ sampleOffset t ch ∧ sampleOffset t ch + 3 ≤ 50 := by
  unfold sampleOffset; omega

/-- One turn of the loop of `Encode`: write the sample, add its three bytes to the running sum
(spec/41_frame_encoder.md R88). -/
def encodeSample (batch : Batch) (acc : Frame × Nat) (t : Fin 2) (ch : Fin 8) : Frame × Nat :=
  let (b2, b1, b0) := pack24 (batch t ch)
  (memWrite acc.1 (sampleOffset t ch) 3 (trunc 24 (batch t ch))
      (Nat.le_trans (sampleOffset_in_payload t ch).2 (by decide)),
    acc.2 + b2.toNat + b1.toNat + b0.toNat)

/-- The loop of `Encode` over the two instants and eight channels. -/
def encodeSamples (batch : Batch) (acc : Frame × Nat) : Frame × Nat :=
  instants.foldl (fun acc t => channels.foldl (fun acc ch => encodeSample batch acc t ch) acc) acc

/-- `Encode`, over the contents the frame buffer had before (spec/41_frame_encoder.md R88). -/
def encodeInto (buf : Frame) (c : Config) (seq : Byte) (batch : Batch) : Frame :=
  let r := encodeSamples batch ((buf.set 0 c.startMarker).set 1 seq, 0)
  (r.1.set 50 (BitVec.ofNat 8 r.2)).set 51 c.endMarker

/-- The buffer `encodeFrame` starts from. Every byte of it is written afresh, so no frame depends on it
(spec/10_state.md R28, log entry 6). -/
def blankFrame : Frame := Vector.replicate 52 0

/-- `Encode(seq, batch)` (spec/41_frame_encoder.md R85, R88). -/
def encodeFrame (c : Config) (seq : Byte) (batch : Batch) : Frame :=
  encodeInto blankFrame c seq batch

/-- The 48 payload bytes of a frame, offsets 2 to 49 (spec/20_memory.md R41). -/
def payload (f : Frame) : List Byte := (f.toList.drop 2).take 48

/-- `Checksum(F)`: the payload bytes summed modulo 256 (spec/41_frame_encoder.md R87). -/
def checksum (f : Frame) : Byte := BitVec.ofNat 8 ((payload f).map BitVec.toNat).sum

end Sys2Proof.Machine
end

