-- ==== Sys2Proof/Machine/SampleGenerator.lean ====
section
/-! DEFINITION. The Sample Generator (spec/40_sample_generator.md): `Level` and `Gen`, pure functions of the counter. -/

namespace Sys2Proof.Machine

/-- `Level(n)`: `+A` while `(n div 25) mod 2 = 0`, `-A` otherwise (spec/40_sample_generator.md R76). -/
def level (c : Config) (n : Nat) : Int :=
  if n / 25 % 2 = 0 then (c.amplitude : Int) else -(c.amplitude : Int)

/-- `Gen(n)`: channels 0 to 3 carry the level, channels 4 to 7 its negative, at both instants
(spec/40_sample_generator.md R77, R78). -/
def gen (c : Config) (n : Nat) : Batch := fun _ ch =>
  if ch.val < 4 then level c n else -level c n

/-- The batch each of whose samples has passed the encoder's input, sign-extended to `SAMPLE_IN_WIDTH` bits. -/
def widened (c : Config) (b : Batch) : Batch := fun t ch => sampleIn c.sampleInWidth (b t ch)

end Sys2Proof.Machine
end

