-- ==== Sys2Proof/Machine/DispatchLoop.lean ====
section
/-! DEFINITION. The Dispatch Loop (spec/43_dispatch.md): `TICK` and `NOP`. -/

namespace Sys2Proof.Machine

/-- The frame a `TICK` step hands to the link: `Encode(SEQ, Gen(TICK))` from the registers before the step
(spec/43_dispatch.md R120). -/
def nextFrame (s : State) : Frame :=
  encodeFrame s.cfg s.seq (widened s.cfg (gen s.cfg s.tick))

/-- `TICK`: one frame and both counters advanced where the link is connected and the gate open, otherwise nothing
(spec/43_dispatch.md R120, R122). -/
def execTick (s : State) : Host.Outcome State Fault Refusal :=
  if gateOpen s then .next (emit (.tx (nextFrame s)) (advanceCounters s))
  else .next (emit .silent s)

/-- `NOP` (spec/43_dispatch.md R121). -/
def execNop (s : State) : Host.Outcome State Fault Refusal := .next (emit .silent s)

end Sys2Proof.Machine
end

