-- ==== Sys2Proof/Machine/PowerMode.lean ====
section
/-! DEFINITION. The Power Mode Controller: the commands and the connection events (spec/42_power_mode_controller.md). -/

namespace Sys2Proof.Machine

/-- `Command(target)`: ignored while disconnected; while connected, a request only where the mode changes, then the mode and
its gate (spec/42_power_mode_controller.md R101, R108). -/
def command (target : Mode) (s : State) : State :=
  if s.conn then
    emit (if s.mode = target then .silent else .req (intervalOf s.cfg target)) (setMode target s)
  else
    emit .silent s

/-- `CMD_B` (spec/42_power_mode_controller.md R102). -/
def execCmdB (s : State) : Host.Outcome State Fault Refusal := .next (command .streaming s)

/-- `CMD_S` (spec/42_power_mode_controller.md R103). -/
def execCmdS (s : State) : Host.Outcome State Fault Refusal := .next (command .idle s)

/-- `CMD_D` (spec/42_power_mode_controller.md R104). -/
def execCmdD (s : State) : Host.Outcome State Fault Refusal := .next (command .sleep s)

/-- `CMD_IGN`: nothing is written and nothing is emitted, whatever the byte (spec/42_power_mode_controller.md R105). -/
def execCmdIgn (_rxByte : Byte) (s : State) : Host.Outcome State Fault Refusal := .next (emit .silent s)

/-- `CONNECT`: connected, Streaming, gate closed, and the fast interval requested without condition
(spec/42_power_mode_controller.md R106). -/
def execConnect (s : State) : Host.Outcome State Fault Refusal :=
  .next (emit (.req (intervalOf s.cfg .streaming)) (forceController true .streaming false s))

/-- `DISCONNECT`: disconnected, Idle, gate closed; the counters keep their values (spec/42_power_mode_controller.md R107,
spec/90_conflicts.md C3). -/
def execDisconnect (s : State) : Host.Outcome State Fault Refusal :=
  .next (emit .silent (forceController false .idle false s))

end Sys2Proof.Machine
end

