-- ==== Sys2Proof/Machine/ResetOperation.lean ====
section
/-! DEFINITION. The `RESET` operation (spec/70_reset_and_hazards.md R150). -/

namespace Sys2Proof.Machine

/-- `RESET`: disconnected, Idle, gate closed, both counters 0, nothing emitted (spec/70_reset_and_hazards.md R150). -/
def execReset (s : State) : Host.Outcome State Fault Refusal :=
  .next (emit .silent (clearCounters (forceController false .idle false s)))

end Sys2Proof.Machine
end

