-- ==== Sys2Proof/Machine/Dispatch.lean ====
section
/-! DEFINITION. One arm per operation of spec/00_scope.md R2. -/

namespace Sys2Proof.Machine

def exec (i : Instr) (s : State) : Host.Outcome State Fault Refusal :=
  match i with
  | .reset => Sys2Proof.Machine.execReset s
  | .disconnect => Sys2Proof.Machine.execDisconnect s
  | .connect => Sys2Proof.Machine.execConnect s
  | .cmdB => Sys2Proof.Machine.execCmdB s
  | .cmdS => Sys2Proof.Machine.execCmdS s
  | .cmdD => Sys2Proof.Machine.execCmdD s
  | .cmdIgn rxByte => Sys2Proof.Machine.execCmdIgn rxByte s
  | .tick => Sys2Proof.Machine.execTick s
  | .nop => Sys2Proof.Machine.execNop s

end Sys2Proof.Machine
end

