-- ==== Sys2Proof/Machine/Step.lean ====
section
/-! DEFINITION. One step: at a rising clock edge the block samples the input word, selects one operation by it alone, and
performs it (spec/10_state.md R32, spec/30_encoding.md R58). -/

namespace Sys2Proof.Machine

/-- One clock edge. -/
def step (s : State) : Host.Outcome State Fault Refusal :=
  exec (decode (sampledWord s)) (consumeInput s)

/-- `s` with the word `w` of `nbits` bits on the input pins at the coming edge (log entry 7). -/
def State.withFetchWord (s : State) (nbits w : Nat) : State :=
  presentInput (BitVec.ofNat 13 (w % 2 ^ nbits)) s

end Sys2Proof.Machine
end

