-- ==== Sys2Proof/Machine/Pins.lean ====
section
/-! DEFINITION. The block's outputs as wires (spec/10_state.md R30, R31; spec/20_memory.md R52), read from a state: the status
outputs follow the registers, the event outputs are those of the step that led to the state. -/

namespace Sys2Proof.Machine

/-- `tx_frame`: byte `F[i]` on bits `415 - 8i` to `408 - 8i` (spec/20_memory.md R52). -/
def txBus (f : Frame) : BitVec 416 :=
  BitVec.ofNat 416 (f.toList.foldl (fun acc b => acc * 256 + b.toNat) 0)

/-- The output pins. A data output has a value only while its valid bit is 1 (spec/93_implementation_defined.md U1). -/
structure OutputPins where
  stConnected : Bool
  stMode : BitVec 2
  stEnabled : Bool
  reqValid : Bool
  reqInterval : Option Nat
  txValid : Bool
  txFrame : Option (BitVec 416)
deriving DecidableEq, Repr

/-- The requested timing parameter, where the output is a request. -/
def requested : Output → Option Nat
  | .req v => some v
  | .silent | .tx _ => none

/-- The transmitted frame, where the output is one. -/
def transmitted : Output → Option Frame
  | .tx f => some f
  | .silent | .req _ => none

/-- The outputs in the clock cycle that follows the step (spec/10_state.md R31, R32). -/
def outputPins (s : State) : OutputPins where
  stConnected := s.conn
  stMode := modeBits s.mode
  stEnabled := s.en
  reqValid := (requested s.out).isSome
  reqInterval := requested s.out
  txValid := (transmitted s.out).isSome
  txFrame := (transmitted s.out).map txBus

end Sys2Proof.Machine
end

