-- ==== Sys2Proof/Safety.lean ====
section
/-! DEFINITION. What claims speak of: the invariant of spec/10_state.md R33, and the runs of spec/00_scope.md R10 with their
outputs. -/

namespace Sys2Proof.Machine

/-- The invariants of every state reachable from `RESET` (spec/10_state.md R33, lines 2 to 4 and 6; line 1 holds by the type
of `mode`), with the range of `TICK` (R25) and what an output says of the state it was emitted into (R111, R120). -/
structure ReachableInv (s : State) : Prop where
  /-- Line 2. -/
  disconnected : s.conn = false → s.mode = .idle ∧ s.en = false
  /-- Line 3. -/
  enabled : s.en = true → s.conn = true ∧ s.mode = .streaming
  /-- Line 4. -/
  lowPower : s.mode = .idle ∨ s.mode = .sleep → s.en = false
  /-- `TICK` is a `TICK_WIDTH`-bit number. -/
  tickInRange : s.tick < 2 ^ s.cfg.tickWidth
  /-- Line 6. -/
  seqFollowsTick : s.seq.toNat = s.tick % 256
  /-- The value requested is the interval of the mode held after the step (spec/42_power_mode_controller.md R111). -/
  requestMatchesMode : ∀ v, s.out = .req v → s.conn = true ∧ v = intervalOf s.cfg s.mode
  /-- A frame leaves only through an open gate (spec/43_dispatch.md R125). -/
  transmitNeedsGate : ∀ f, s.out = .tx f → s.conn = true ∧ s.en = true

/-- The states after each of the next `k` steps, the first one first. -/
def trace : Nat → State → List State
  | 0, _ => []
  | k + 1, s =>
    match step s with
    | .next t => t :: trace k t
    | .fault _ | .refused _ => []

/-- The state after the next `k` steps. -/
def after : Nat → State → State
  | 0, s => s
  | k + 1, s =>
    match step s with
    | .next t => after k t
    | .fault _ | .refused _ => s

/-- The run over all the input words listed in `s`. -/
def runOf (s : State) : List State := trace s.inputs.length s

/-- The state once all the input words listed in `s` have been consumed. -/
def endOf (s : State) : State := after s.inputs.length s

/-- The events of a run, in step order: its outputs, less the steps that emit nothing (spec/00_scope.md R10). -/
def events (ts : List State) : List Output := (ts.map State.out).filter (· ≠ .silent)

/-- The frames of a run, in step order. -/
def frames (ts : List State) : List Frame := ts.filterMap fun t => transmitted t.out

/-- The observable behaviour of a run: its outputs together with the status outputs after every step
(spec/00_scope.md R10). -/
def observation (ts : List State) : List OutputPins := ts.map outputPins

end Sys2Proof.Machine
end

