-- ==== Sys2Proof/Certificates/Slice0/Obligations.lean ====
section
/-! DEFINITION. The statements about PFPM that the provers settle. A statement of the form `exec i s = .next …` gives the whole
next state, so it says at once that the operation completes, what it writes, and that every other field keeps its value. -/

open Sys2Proof Sys2Proof.Machine

/-! ## Encodings -/

/-- R58: the strobes select the operation in the order reset, disconnect, connect, received byte, tick. -/
def Obligations.DecoderFollowsStrobePriority : Prop :=
  ∀ p : InputPins, decode p.word =
    if p.rst = true then .reset
    else if p.evDisconnect = true then .disconnect
    else if p.evConnect = true then .connect
    else if p.rxValid = true then
      if p.rxByte = 0x62 then .cmdB
      else if p.rxByte = 0x73 then .cmdS
      else if p.rxByte = 0x64 then .cmdD
      else .cmdIgn p.rxByte
    else if p.tick = true then .tick
    else .nop

/-- R57: the bits of the input word, and the received byte has no effect unless `rx_valid` wins the selection. -/
def Obligations.InputWordLayout : Prop :=
  (∀ p : InputPins, p.word.toNat =
    4096 * p.rst.toNat + 2048 * p.evDisconnect.toNat + 1024 * p.evConnect.toNat + 512 * p.rxValid.toNat +
      256 * p.tick.toNat + p.rxByte.toNat) ∧
  (∀ w : Evt13, (Evt13.pins w).word = w) ∧
  (∀ (p : InputPins) (b : Byte),
    p.rst = true ∨ p.evDisconnect = true ∨ p.evConnect = true ∨ p.rxValid = false →
    decode ({ p with rxByte := b } : InputPins).word = decode p.word)

/-- R59: the first row that matches is the decoder's operation, and two rows match one word only where one of them is
`CMD_IGN` and the other a command. -/
def Obligations.OpcodeRowsAgreeWithDecoder : Prop :=
  ∀ w : Evt13,
    (opRows.find? (fun r => r.hits w)).map OpRow.mnemonic = some (decode w).mnemonic ∧
    ∀ r ∈ opRows, ∀ r' ∈ opRows, r.hits w = true → r'.hits w = true →
      r = r' ∨ (r.mnemonic = "CMD_IGN" ∧ r'.mnemonic ∈ ["CMD_B", "CMD_S", "CMD_D"]) ∨
        (r'.mnemonic = "CMD_IGN" ∧ r.mnemonic ∈ ["CMD_B", "CMD_S", "CMD_D"])

/-- Encoding a well-formed operation and decoding the word gives the operation back; every word decodes to a well-formed
operation, whose own word agrees with it on every bit the operation's row examines, and on the byte `CMD_IGN` carries. -/
def Obligations.DecodeEncodeAgree : Prop :=
  (∀ i : Instr, i.wf = true → decode (encode i) = i) ∧
  (∀ w : Evt13, (decode w).wf = true ∧
    (∀ r ∈ opRows, r.mnemonic = (decode w).mnemonic → encode (decode w) &&& r.mask = w &&& r.mask) ∧
    (∀ b, decode w = .cmdIgn b → Evt13.rxByte (encode (decode w)) = Evt13.rxByte w))

/-- Words written out from the rows of R59 decode to the operation they stand for. -/
def Obligations.WrittenWordsDecode : Prop :=
  decode 0b1000000000000 = .reset ∧ decode 0b0100000000000 = .disconnect ∧ decode 0b0010000000000 = .connect ∧
  decode 0b0001001100010 = .cmdB ∧ decode 0b0001101110011 = .cmdS ∧ decode 0b0001001100100 = .cmdD ∧
  decode 0b0001001111000 = .cmdIgn 0x78 ∧ decode 0b0000111111111 = .tick ∧ decode 0b0000001100010 = .nop

/-- R66 and R67: the words of the items of the trace notation; `item*N` is the item in `N` consecutive steps. -/
def Obligations.TraceNotationWords : Prop :=
  Item.reset.words = [0x1000] ∧ Item.disconnect.words = [0x0800] ∧ Item.connect.words = [0x0400] ∧
  Item.b.words = [0x0262] ∧ Item.s.words = [0x0273] ∧ Item.d.words = [0x0264] ∧
  (∀ byte : Byte, (Item.rx byte).words.map BitVec.toNat = [0x0200 + byte.toNat]) ∧
  Item.tick.words = [0x0100] ∧ Item.nop.words = [0x0000] ∧ (∀ w : Evt13, (Item.word w).words = [w]) ∧
  (∀ (item : Item) (n : Nat), (Item.times item 0).words = [] ∧
    (Item.times item (n + 1)).words = item.words ++ (Item.times item n).words)

/-! ## The step -/

/-- A step is `exec` of the operation its input word selects, on the state from which that word has been taken; where no word
is listed the step is a `NOP` (log entry 1). -/
def Obligations.StepRunsDecodedOperation : Prop :=
  (∀ (s : State) (w : Evt13) (ws : List Evt13), s.inputs = w :: ws →
    step s = exec (decode w) { s with inputs := ws }) ∧
  (∀ s : State, s.inputs = [] → step s = exec .nop s)

/-- Every operation and every step has a next state, in every state (R10, R130). -/
def Obligations.EveryOperationCompletes : Prop :=
  (∀ (i : Instr) (s : State), ∃ t, exec i s = .next t) ∧ (∀ s : State, ∃ t, step s = .next t)

/-- A step takes one input word and leaves the configuration as it is (R45, R152). -/
def Obligations.StepConsumesOneWord : Prop :=
  ∀ s : State, ∃ t, step s = .next t ∧ t.inputs = s.inputs.tail ∧ t.cfg = s.cfg

/-- Nothing but the registers survives from one step to the next: neither a step nor the observable behaviour of a run depends
on an earlier output (R20, R28, R34). -/
def Obligations.OutputsAreNeverRead : Prop :=
  ∀ (s : State) (o : Output),
    step { s with out := o } = step s ∧ observation (runOf { s with out := o }) = observation (runOf s)

/-! ## Reset -/

/-- R150: whatever the other inputs are, an edge with `rst` = 1 is `RESET`; it forces every register and emits nothing; it is
idempotent; and no other operation changes `SEQ` or `TICK` but by incrementing them. -/
def Obligations.ResetForcesEveryRegister : Prop :=
  (∀ p : InputPins, p.rst = true → decode p.word = .reset) ∧
  (∀ s : State, exec .reset s =
    .next { s with conn := false, mode := .idle, en := false, seq := 0, tick := 0, out := .silent }) ∧
  (∀ s t : State, exec .reset s = .next t → exec .reset t = .next t) ∧
  (∀ (i : Instr) (s t : State), exec i s = .next t → i ≠ .reset →
    (t.seq = s.seq ∨ t.seq = s.seq + 1) ∧ (t.tick = s.tick ∨ t.tick = (s.tick + 1) % 2 ^ s.cfg.tickWidth))

/-- R35: the reset values of the five registers, established by `RESET` from every state, and those `State.reset` holds; the
pins then read as R151 says. -/
def Obligations.ResetStateValues : Prop :=
  (State.reset.conn = false ∧ State.reset.mode = .idle ∧ State.reset.en = false ∧ State.reset.seq = 0 ∧
    State.reset.tick = 0 ∧ State.reset.out = .silent) ∧
  (∀ s : State, ∃ t, exec .reset s = .next t ∧ t.conn = false ∧ t.mode = .idle ∧ t.en = false ∧ t.seq = 0 ∧ t.tick = 0 ∧
    outputPins t = { stConnected := false, stMode := 1, stEnabled := false, reqValid := false, reqInterval := none,
                     txValid := false, txFrame := none })

/-! ## Connection events -/

/-- R106: `CONNECT` from every state. -/
def Obligations.ConnectForcesStreaming : Prop :=
  (∀ p : InputPins, p.rst = false → p.evDisconnect = false → p.evConnect = true → decode p.word = .connect) ∧
  (∀ s : State, exec .connect s =
    .next { s with conn := true, mode := .streaming, en := false, out := .req s.cfg.intervalFast })

/-- R107: `DISCONNECT` from every state; it is idempotent, a following `TICK` emits nothing, and while `CONN` = 0 the value of
`MODE` influences nothing but itself. -/
def Obligations.DisconnectForcesIdle : Prop :=
  (∀ p : InputPins, p.rst = false → p.evDisconnect = true → decode p.word = .disconnect) ∧
  (∀ s : State, exec .disconnect s =
    .next { s with conn := false, mode := .idle, en := false, out := .silent }) ∧
  (∀ s t : State, exec .disconnect s = .next t → exec .disconnect t = .next t ∧ exec .tick t = .next t) ∧
  (∀ (i : Instr) (s t : State) (m : Mode), s.conn = false → exec i s = .next t →
    ∃ t', exec i { s with mode := m } = .next t' ∧ { t' with mode := t.mode } = t)

/-! ## Commands -/

/-- R101 to R104: a recognised command while connected moves to its mode, drives the gate that goes with it, and requests the
mode's interval exactly if the mode changes; while disconnected it does nothing; the `TICK` after a `CMD_S` emits nothing. -/
def Obligations.CommandsSetModeAndGate : Prop :=
  (∀ p : InputPins, p.rst = false → p.evDisconnect = false → p.evConnect = false → p.rxValid = true →
    (p.rxByte = 0x62 → decode p.word = .cmdB) ∧ (p.rxByte = 0x73 → decode p.word = .cmdS) ∧
    (p.rxByte = 0x64 → decode p.word = .cmdD)) ∧
  (∀ s : State, s.conn = true →
    exec .cmdB s = .next { s with
      mode := .streaming, en := true, out := if s.mode = .streaming then .silent else .req s.cfg.intervalFast } ∧
    exec .cmdS s = .next { s with
      mode := .idle, en := false, out := if s.mode = .idle then .silent else .req s.cfg.intervalMedium } ∧
    exec .cmdD s = .next { s with
      mode := .sleep, en := false, out := if s.mode = .sleep then .silent else .req s.cfg.intervalSlow }) ∧
  (∀ s : State, s.conn = false →
    exec .cmdB s = .next { s with out := .silent } ∧ exec .cmdS s = .next { s with out := .silent } ∧
    exec .cmdD s = .next { s with out := .silent }) ∧
  (∀ s t : State, s.conn = true → exec .cmdS s = .next t → exec .tick t = .next { t with out := .silent })

/-- R108: while `CONN` = 0 a step that receives a byte does nothing, whatever the byte. -/
def Obligations.BytesIgnoredWhileDisconnected : Prop :=
  ∀ (s : State) (p : InputPins) (ws : List Evt13),
    s.conn = false → s.inputs = p.word :: ws →
    p.rst = false → p.evDisconnect = false → p.evConnect = false → p.rxValid = true →
    step s = .next { s with inputs := ws, out := .silent }

/-- R105: the 253 other bytes select `CMD_IGN`, which does nothing, connected or not. -/
def Obligations.UnrecognisedByteDoesNothing : Prop :=
  (∀ p : InputPins, p.rst = false → p.evDisconnect = false → p.evConnect = false → p.rxValid = true →
    p.rxByte ≠ 0x62 → p.rxByte ≠ 0x73 → p.rxByte ≠ 0x64 → decode p.word = .cmdIgn p.rxByte) ∧
  (∀ (b : Byte) (s : State), exec (.cmdIgn b) s = .next { s with out := .silent })

/-- R109: the transition table of (`CONN`, `MODE`, `EN`). A row gives the state, and for `connect`, `disconnect`, `b`, `s`, `d`
the next one and the mode whose interval is requested, if any; every other byte, `tick` and `nop` leave the three registers, and
`reset` leads to (0, Idle, 0). -/
def Obligations.TransitionTable : Prop :=
  ∀ row ∈ [
    ((false, Mode.idle, false), [
      (Instr.connect, (true, Mode.streaming, false), some Mode.streaming), (.disconnect, (false, .idle, false), none),
      (.cmdB, (false, .idle, false), none), (.cmdS, (false, .idle, false), none), (.cmdD, (false, .idle, false), none)]),
    ((true, .streaming, false), [
      (.connect, (true, .streaming, false), some .streaming), (.disconnect, (false, .idle, false), none),
      (.cmdB, (true, .streaming, true), none), (.cmdS, (true, .idle, false), some .idle),
      (.cmdD, (true, .sleep, false), some .sleep)]),
    ((true, .streaming, true), [
      (.connect, (true, .streaming, false), some .streaming), (.disconnect, (false, .idle, false), none),
      (.cmdB, (true, .streaming, true), none), (.cmdS, (true, .idle, false), some .idle),
      (.cmdD, (true, .sleep, false), some .sleep)]),
    ((true, .idle, false), [
      (.connect, (true, .streaming, false), some .streaming), (.disconnect, (false, .idle, false), none),
      (.cmdB, (true, .streaming, true), some .streaming), (.cmdS, (true, .idle, false), none),
      (.cmdD, (true, .sleep, false), some .sleep)]),
    ((true, .sleep, false), [
      (.connect, (true, .streaming, false), some .streaming), (.disconnect, (false, .idle, false), none),
      (.cmdB, (true, .streaming, true), some .streaming), (.cmdS, (true, .idle, false), some .idle),
      (.cmdD, (true, .sleep, false), none)])],
  ∀ s : State, (s.conn, s.mode, s.en) = row.1 →
    (∀ entry ∈ row.2, exec entry.1 s = .next { s with
      conn := entry.2.1.1, mode := entry.2.1.2.1, en := entry.2.1.2.2,
      out := match entry.2.2 with | none => .silent | some m => .req (intervalOf s.cfg m) }) ∧
    (∀ b : Byte, exec (.cmdIgn b) s = .next { s with out := .silent }) ∧
    (∃ t, exec .tick s = .next t ∧ (t.conn, t.mode, t.en) = row.1) ∧
    (∃ t, exec .nop s = .next t ∧ (t.conn, t.mode, t.en) = row.1) ∧
    (∃ t, exec .reset s = .next t ∧ (t.conn, t.mode, t.en) = (false, .idle, false))

/-- R111: a step emits `req(v)` exactly if it is a `CONNECT`, or a recognised command executed while connected whose target
differs from the mode; and then `v` is the interval of the mode held after the step. -/
def Obligations.RequestsExactlyOnModeChange : Prop :=
  ∀ s : State, ∃ t, step s = .next t ∧ ∀ v : Nat,
    t.out = .req v ↔
      ((decode (sampledWord s) = .connect ∨
        (s.conn = true ∧
          ((decode (sampledWord s) = .cmdB ∧ s.mode ≠ .streaming) ∨ (decode (sampledWord s) = .cmdS ∧ s.mode ≠ .idle) ∨
            (decode (sampledWord s) = .cmdD ∧ s.mode ≠ .sleep)))) ∧
        v = intervalOf s.cfg t.mode)

/-- R62: only the three intervals are ever requested, and each fits `INTERVAL_WIDTH` bits. -/
def Obligations.OnlyThreeIntervalsRequested : Prop :=
  ∀ (s t : State) (v : Nat), step s = .next t → t.out = .req v →
    (v = s.cfg.intervalFast ∨ v = s.cfg.intervalMedium ∨ v = s.cfg.intervalSlow) ∧ v < 2 ^ s.cfg.intervalWidth

/-! ## Dispatch -/

/-- R120: with the link connected and the gate open, `TICK` emits `Encode(SEQ, Gen(TICK))`, of the register values before the
step, and advances both counters; otherwise it writes nothing and emits nothing. -/
def Obligations.TickEmitsOneFrame : Prop :=
  (∀ p : InputPins, p.rst = false → p.evDisconnect = false → p.evConnect = false → p.rxValid = false → p.tick = true →
    decode p.word = .tick) ∧
  (∀ s : State, s.conn = true → s.en = true → exec .tick s = .next { s with
    seq := BitVec.ofNat 8 ((s.seq.toNat + 1) % 256), tick := (s.tick + 1) % 2 ^ s.cfg.tickWidth,
    out := .tx (encodeFrame s.cfg s.seq (gen s.cfg s.tick)) }) ∧
  (∀ s : State, ¬(s.conn = true ∧ s.en = true) → exec .tick s = .next { s with out := .silent })

/-- R122: a gated-off tick, and any number of them, does no work: no frame, and neither counter advances. -/
def Obligations.GatedTicksDoNothing : Prop :=
  ∀ (s : State) (n : Nat), s.conn = false ∨ s.en = false → s.inputs = List.replicate n 0x0100 →
    frames (runOf s) = [] ∧ ∀ t ∈ runOf s, t.seq = s.seq ∧ t.tick = s.tick ∧ t.out = .silent

/-- R121: with no strobe set the operation is `NOP`: nothing is written, nothing is emitted. -/
def Obligations.NopDoesNothing : Prop :=
  (∀ p : InputPins, p.rst = false → p.evDisconnect = false → p.evConnect = false → p.rxValid = false → p.tick = false →
    decode p.word = .nop) ∧
  (∀ s : State, exec .nop s = .next { s with out := .silent })

/-- A step emits a frame exactly if it is a `TICK` with the link connected and the gate open, and the frame is then
`Encode(SEQ, Gen(TICK))` (R120, R125). -/
def Obligations.TransmitsExactlyOnOpenTick : Prop :=
  ∀ s : State, ∃ t, step s = .next t ∧ ∀ f : Frame,
    t.out = .tx f ↔ (decode (sampledWord s) = .tick ∧ s.conn = true ∧ s.en = true ∧
      f = encodeFrame s.cfg s.seq (gen s.cfg s.tick))

/-! ## Who writes what -/

/-- Only `CONNECT` sets `CONN`, and only `DISCONNECT` and `RESET` clear it (R21). -/
def Obligations.OnlyLinkEventsWriteConn : Prop :=
  ∀ (i : Instr) (s t : State), exec i s = .next t →
    (s.conn = false → t.conn = true → i = .connect) ∧ (s.conn = true → t.conn = false → i = .disconnect ∨ i = .reset)

/-- `SEQ` and `TICK` change only in `RESET` and in a `TICK` that emits a frame (R24, R25). -/
def Obligations.CountersChangeOnlyWithFrames : Prop :=
  ∀ (i : Instr) (s t : State), exec i s = .next t → t.seq ≠ s.seq ∨ t.tick ≠ s.tick →
    i = .reset ∨ (i = .tick ∧ t.out = .tx (encodeFrame s.cfg s.seq (gen s.cfg s.tick)))

/-- Frame: which registers each operation leaves as they were. A command writes `MODE` and `EN` only, a connection event those
and `CONN`, a tick the counters only, the others nothing; `out` is the step's output and no register. -/
def Obligations.OperationsFrame : Prop :=
  ∀ (i : Instr) (s t : State), exec i s = .next t →
    t.cfg = s.cfg ∧ t.inputs = s.inputs ∧
    (i ∈ [.cmdB, .cmdS, .cmdD] → t.conn = s.conn ∧ t.seq = s.seq ∧ t.tick = s.tick) ∧
    (i = .connect ∨ i = .disconnect → t.seq = s.seq ∧ t.tick = s.tick) ∧
    (i = .tick → t.conn = s.conn ∧ t.mode = s.mode ∧ t.en = s.en) ∧
    (i = .nop ∨ (∃ b, i = .cmdIgn b) →
      t.conn = s.conn ∧ t.mode = s.mode ∧ t.en = s.en ∧ t.seq = s.seq ∧ t.tick = s.tick)

/-- While disconnected, only `CONNECT` and `RESET` change a register or emit anything (R107, R108, R122), in every state of
the invariant. -/
def Obligations.DisconnectedBlockWaits : Prop :=
  ∀ (i : Instr) (s t : State), ReachableInv s → s.conn = false → exec i s = .next t → i ≠ .connect → i ≠ .reset →
    t = { s with out := .silent }

/-- A command's effect holds in the next step (R51): the `TICK` after a `CMD_B` executed while connected emits a frame, and the
`TICK` after a `CMD_S`, `CMD_D` or `DISCONNECT` emits nothing. -/
def Obligations.CommandEffectIsImmediate : Prop :=
  ∀ (s : State) (ws : List Evt13),
    (s.conn = true → s.inputs = 0x0262 :: 0x0100 :: ws →
      (after 2 s).out = .tx (encodeFrame s.cfg s.seq (gen s.cfg s.tick))) ∧
    (∀ w ∈ ([0x0273, 0x0264, 0x0800] : List Evt13), s.inputs = w :: 0x0100 :: ws →
      (after 2 s).out = .silent ∧ (after 2 s).seq = s.seq ∧ (after 2 s).tick = s.tick)

/-! ## Invariants and runs -/

/-- Every step keeps the invariant of R33. -/
def Obligations.StepKeepsInvariant : Prop :=
  ∀ s t : State, ReachableInv s → step s = .next t → ReachableInv t

/-- The invariant holds after reset, and `RESET` establishes it from every state, also one no run reaches. -/
def Obligations.ResetEstablishesInvariant : Prop :=
  ReachableInv State.reset ∧ (∀ c : Config, ReachableInv (State.resetWith c)) ∧
  ∀ s t : State, exec .reset s = .next t → ReachableInv t

/-- The controller states of the invariant are exactly the five of R33: a state of the invariant has one of them, and each of
them is that of some state of the invariant, under every configuration. -/
def Obligations.InvariantAllowsFiveControllerStates : Prop :=
  let five := [(false, Mode.idle, false), (true, .streaming, false), (true, .streaming, true), (true, .idle, false),
    (true, .sleep, false)]
  (∀ s : State, ReachableInv s → (s.conn, s.mode, s.en) ∈ five) ∧
  (∀ c : Config, ∀ ctl ∈ five, ∃ s : State, ReachableInv s ∧ s.cfg = c ∧ (s.conn, s.mode, s.en) = ctl)

/-- Each of the five controller states of R33 is reached from reset together with every value of `TICK`. -/
def Obligations.EveryListedStateIsReached : Prop :=
  ∀ (c : Config) (n : Nat), n < 2 ^ c.tickWidth →
    ∀ ctl ∈ [(false, Mode.idle, false), (true, .streaming, false), (true, .streaming, true), (true, .idle, false),
        (true, .sleep, false)],
      ∃ ws : List Evt13,
        let t := endOf { State.resetWith c with inputs := ws }
        (t.conn, t.mode, t.en) = ctl ∧ t.tick = n ∧ t.seq = BitVec.ofNat 8 n

/-- Between two resets the frames of a run carry consecutive sequence numbers and consecutive counter values, without a skip
or a repetition, whatever the environment does: the `k`-th frame is `Encode(SEQ + k, Gen(TICK + k))` of the registers the run
started with (R79, R89, R125). -/
def Obligations.FramesAreNumberedConsecutively : Prop :=
  ∀ s : State, ReachableInv s → (∀ w ∈ s.inputs, decode w ≠ .reset) →
    frames (runOf s) = (List.range (frames (runOf s)).length).map fun k =>
      encodeFrame s.cfg (BitVec.ofNat 8 ((s.seq.toNat + k) % 256)) (gen s.cfg ((s.tick + k) % 2 ^ s.cfg.tickWidth))

/-- From reset: the `k`-th frame of a run without a further `RESET` is `Encode(k mod 256, Gen(k mod 2^TICK_WIDTH))`, and the
counters count the frames (R125). -/
def Obligations.FramesCountedFromReset : Prop :=
  ∀ (c : Config) (ws : List Evt13), (∀ w ∈ ws, decode w ≠ .reset) →
    let s : State := { State.resetWith c with inputs := ws }
    let n := (frames (runOf s)).length
    frames (runOf s) = (List.range n).map (fun k =>
      encodeFrame c (BitVec.ofNat 8 (k % 256)) (gen c (k % 2 ^ c.tickWidth))) ∧
    (endOf s).tick = n % 2 ^ c.tickWidth ∧ (endOf s).seq = BitVec.ofNat 8 (n % 256)

/-- Steps without a strobe are without effect: a run has the events and the final registers of the run over its other input
words alone (R121). -/
def Obligations.NopStepsAreImmaterial : Prop :=
  ∀ s : State,
    let s' : State := { s with inputs := s.inputs.filter (fun w => decode w ≠ .nop) }
    events (runOf s) = events (runOf s') ∧ emit .silent (endOf s) = emit .silent (endOf s')

/-- With the gate closed, no frame leaves before the next `CMD_B`, whatever else the environment does (R125). -/
def Obligations.NoFrameBeforeBegin : Prop :=
  ∀ s : State, s.en = false → (∀ w ∈ s.inputs, decode w ≠ .cmdB) → frames (runOf s) = [] ∧ (endOf s).en = false

/-! ## The Sample Generator -/

/-- R76: the level is `+A` for 25 counter values, then `-A` for 25, and so on. -/
def Obligations.LevelAlternatesEvery25 : Prop :=
  ∀ (c : Config) (m k : Nat), k < 25 →
    level c (50 * m + k) = (c.amplitude : Int) ∧ level c (50 * m + 25 + k) = -(c.amplitude : Int)

/-- R78: `Gen` in full; every sample is in the 24-bit range, so that it passes the encoder's input unchanged. -/
def Obligations.GeneratedBatch : Prop :=
  ∀ (c : Config) (n : Nat) (t : Fin 2) (ch : Fin 8),
    gen c n t ch = (if (n / 25) % 2 = 0 then (c.amplitude : Int) else -(c.amplitude : Int)) * (if ch.val < 4 then 1 else -1) ∧
    -(2 ^ 23 - 1) ≤ gen c n t ch ∧ gen c n t ch ≤ 2 ^ 23 - 1 ∧
    widened c (gen c n) t ch = gen c n t ch

/-- R82: channels 0 to 3 and 4 to 7 carry opposite values of magnitude `A`, and both instants are equal. -/
def Obligations.ChannelHalvesAreOpposite : Prop :=
  ∀ (c : Config) (n : Nat),
    (∀ (t : Fin 2) (ch : Fin 8) (h : ch.val < 4), gen c n t ch = -gen c n t ⟨ch.val + 4, by omega⟩) ∧
    (∀ (t : Fin 2) (ch : Fin 8), (gen c n t ch).natAbs = c.amplitude) ∧ (∀ ch : Fin 8, gen c n 0 ch = gen c n 1 ch)

/-- The batch has period 50 in the counter, and 25 counter values on every sign is flipped (R83). -/
def Obligations.BatchPeriod : Prop :=
  ∀ (c : Config) (n : Nat), gen c (n + 50) = gen c n ∧ ∀ t ch, gen c (n + 25) t ch = -gen c n t ch

/-- R81: the counter returns to 0 after its last value; no power of two is a multiple of 50; and for `TICK_WIDTH` = 32 the last
`-A` run before the wrap is the 21 values from 4294967275 on, followed by `+A`. -/
def Obligations.CounterWrapShortensOneLevel : Prop :=
  (∀ s : State, s.conn = true → s.en = true → s.tick = 2 ^ s.cfg.tickWidth - 1 →
    ∃ t, exec .tick s = .next t ∧ t.tick = 0) ∧
  (∀ w : Nat, ¬ 50 ∣ 2 ^ w) ∧
  (∀ (c : Config) (k : Nat), k < 21 → level c (4294967275 + k) = -(c.amplitude : Int)) ∧
  (∀ c : Config, level c 4294967274 = (c.amplitude : Int) ∧ level c 0 = (c.amplitude : Int)) ∧ 4294967275 + 21 = 2 ^ 32

/-! ## The Frame Encoder -/

/-- R64, R86, R90: the three bytes of a sample are its low 24 bits, most significant first, for every integer; in range a
receiver reads the sample back; a multiple of `2^24` makes no difference. -/
def Obligations.SamplePacksToLow24Bits : Prop :=
  ∀ v : Int,
    (((pack24 v).1.toNat * 65536 + (pack24 v).2.1.toNat * 256 + (pack24 v).2.2.toNat : Nat) : Int) = v % 2 ^ 24 ∧
    (-(2 ^ 23) ≤ v → v ≤ 2 ^ 23 - 1 → sext 24 (trunc 24 v) = v) ∧
    (∀ k : Int, pack24 (v + k * 2 ^ 24) = pack24 v)

/-- Through a signed input of at least 24 bits every sample keeps its low 24 bits (D15), so `Encode` gives the same frame. -/
def Obligations.SampleWidthIsImmaterial : Prop :=
  (∀ (w : Nat) (v : Int), 24 ≤ w → trunc 24 (sampleIn w v) = trunc 24 v) ∧
  (∀ (c : Config) (seq : Byte) (batch : Batch), encodeFrame c seq (widened c batch) = encodeFrame c seq batch)

/-- R88, R41, R42: every byte of a frame, for every sequence number and every batch. -/
def Obligations.FrameLayout : Prop :=
  ∀ (c : Config) (seq : Byte) (batch : Batch),
    let f := encodeFrame c seq batch
    f[0] = c.startMarker ∧ f[1] = seq ∧ f[51] = c.endMarker ∧
    f[50].toNat = ((List.range 48).map fun k => (f.toList.getD (2 + k) 0).toNat).sum % 256 ∧
    ∀ (t : Fin 2) (ch : Fin 8),
      let p := batch t ch % 2 ^ 24
      f[2 + 24 * t.val + 3 * ch.val]? = some (BitVec.ofInt 8 (p / 65536)) ∧
      f[2 + 24 * t.val + 3 * ch.val + 1]? = some (BitVec.ofInt 8 (p / 256)) ∧
      f[2 + 24 * t.val + 3 * ch.val + 2]? = some (BitVec.ofInt 8 p)

/-- The frame determines the sequence number and the 16 truncated samples, and nothing more of the batch (R92). -/
def Obligations.FrameDeterminesItsContents : Prop :=
  ∀ (c : Config) (seq seq' : Byte) (batch batch' : Batch),
    encodeFrame c seq batch = encodeFrame c seq' batch' ↔
      seq = seq' ∧ ∀ t ch, batch t ch % 2 ^ 24 = batch' t ch % 2 ^ 24

/-- Every byte of the buffer is written afresh by every `Encode`: what it held before has no influence (R28, R44). -/
def Obligations.BufferContentsAreImmaterial : Prop :=
  ∀ (buf : Frame) (c : Config) (seq : Byte) (batch : Batch), encodeInto buf c seq batch = encodeFrame c seq batch

/-- R87: the checksum is the sum of the bytes at offsets 2 to 49 modulo 256; the full sum is at most 12240; an 8-bit
accumulator that wraps on every addition gives the same byte; the other four bytes are not summed. -/
def Obligations.ChecksumIsWrappingByteSum : Prop :=
  ∀ f : Frame,
    (checksum f).toNat = ((List.range 48).map fun k => (f.toList.getD (2 + k) 0).toNat).sum % 256 ∧
    ((payload f).map BitVec.toNat).sum ≤ 12240 ∧
    (payload f).foldl (· + ·) 0 = checksum f ∧
    ∀ b : Byte, checksum (f.set 0 b) = checksum f ∧ checksum (f.set 1 b) = checksum f ∧
      checksum (f.set 50 b) = checksum f ∧ checksum (f.set 51 b) = checksum f

/-- R94: the frames of generated batches have one payload sum, and so one checksum, whatever the level; between two counter
values of opposite levels channels 0 to 3 swap their fields with channels 4 to 7; for the largest amplitude the payload sum is
6128 and the checksum `0xF0`. -/
def Obligations.GeneratedFramesShareOneChecksum : Prop :=
  ∀ (c : Config) (seq seq' : Byte) (n n' : Nat),
    let f := encodeFrame c seq (gen c n)
    let f' := encodeFrame c seq' (gen c n')
    ((payload f).map BitVec.toNat).sum = ((payload f').map BitVec.toNat).sum ∧ f[50] = f'[50] ∧
    (level c n' = -level c n → ∀ (t : Fin 2) (ch : Fin 4) (j : Fin 3),
      f'[2 + 24 * t.val + 3 * ch.val + j.val]? = f[2 + 24 * t.val + 3 * (ch.val + 4) + j.val]? ∧
      f'[2 + 24 * t.val + 3 * (ch.val + 4) + j.val]? = f[2 + 24 * t.val + 3 * ch.val + j.val]?) ∧
    (c.amplitude = 0x7FFFFF → ((payload f).map BitVec.toNat).sum = 6128 ∧ f[50] = 0xF0)

/-- In every emitted frame the fields of channels `c` and `c + 4` are negatives of each other modulo `2^24`
(R82 with R86). -/
def Obligations.EmittedChannelsAreOpposite : Prop :=
  ∀ (s t : State) (f : Frame), step s = .next t → t.out = .tx f →
    ∀ (i : Fin 2) (ch : Fin 4),
      let field := fun a => (f.toList.getD a 0).toNat * 65536 + (f.toList.getD (a + 1) 0).toNat * 256 +
        (f.toList.getD (a + 2) 0).toNat
      (field (2 + 24 * i.val + 3 * ch.val) + field (2 + 24 * i.val + 3 * (ch.val + 4))) % 2 ^ 24 = 0

/-! ## The output pins -/

/-- R52: byte `F[i]` is bits `415 - 8i` to `408 - 8i` of `tx_frame`. -/
def Obligations.FrameOnTheBus : Prop :=
  ∀ (f : Frame) (i : Nat) (h : i < 52), (txBus f).extractLsb' (408 - 8 * i) 8 = f[i]

/-- R31, R61: the status outputs show `CONN`, `MODE` by its code and `EN`, never the code 3, and nothing of the counters. -/
def Obligations.StatusPinsShowRegisters : Prop :=
  ∀ s : State,
    (outputPins s).stConnected = s.conn ∧ (outputPins s).stEnabled = s.en ∧
    (outputPins s).stMode = (match s.mode with | .streaming => 0b00 | .idle => 0b01 | .sleep => 0b10) ∧
    (outputPins s).stMode ≠ 0b11 ∧
    ∀ (q : BitVec 8) (n : Nat), outputPins { s with seq := q, tick := n } = outputPins s

/-- Each valid bit is 1 for exactly a step that emits, and then its data output has the value emitted; the two are never 1 in
the same step (R30). -/
def Obligations.EventPinsShowOutput : Prop :=
  ∀ s : State,
    ((outputPins s).reqValid = true ↔ ∃ v, s.out = .req v ∧ (outputPins s).reqInterval = some v) ∧
    ((outputPins s).txValid = true ↔ ∃ f, s.out = .tx f ∧ (outputPins s).txFrame = some (txBus f)) ∧
    ¬((outputPins s).reqValid = true ∧ (outputPins s).txValid = true)
end

