-- ==== Sys2Proof/Laws/State.lean ====
section
/-! SUPPORT. One lemma for each field of `State` under each named update. -/

namespace Sys2Proof.Machine

section Reset
variable (c : Config)
@[simp] theorem resetWith_cfg : (State.resetWith c).cfg = c := rfl
@[simp] theorem resetWith_conn : (State.resetWith c).conn = false := rfl
@[simp] theorem resetWith_mode : (State.resetWith c).mode = .idle := rfl
@[simp] theorem resetWith_en : (State.resetWith c).en = false := rfl
@[simp] theorem resetWith_seq : (State.resetWith c).seq = 0 := rfl
@[simp] theorem resetWith_tick : (State.resetWith c).tick = 0 := rfl
@[simp] theorem resetWith_out : (State.resetWith c).out = .silent := rfl
@[simp] theorem resetWith_inputs : (State.resetWith c).inputs = [] := rfl
end Reset

section Emit
variable (o : Output) (s : State)
@[simp] theorem emit_cfg : (emit o s).cfg = s.cfg := rfl
@[simp] theorem emit_conn : (emit o s).conn = s.conn := rfl
@[simp] theorem emit_mode : (emit o s).mode = s.mode := rfl
@[simp] theorem emit_en : (emit o s).en = s.en := rfl
@[simp] theorem emit_seq : (emit o s).seq = s.seq := rfl
@[simp] theorem emit_tick : (emit o s).tick = s.tick := rfl
@[simp] theorem emit_out : (emit o s).out = o := rfl
@[simp] theorem emit_inputs : (emit o s).inputs = s.inputs := rfl
end Emit

section ForceController
variable (cn : Bool) (m : Mode) (e : Bool) (s : State)
@[simp] theorem forceController_cfg : (forceController cn m e s).cfg = s.cfg := rfl
@[simp] theorem forceController_conn : (forceController cn m e s).conn = cn := rfl
@[simp] theorem forceController_mode : (forceController cn m e s).mode = m := rfl
@[simp] theorem forceController_en : (forceController cn m e s).en = e := rfl
@[simp] theorem forceController_seq : (forceController cn m e s).seq = s.seq := rfl
@[simp] theorem forceController_tick : (forceController cn m e s).tick = s.tick := rfl
@[simp] theorem forceController_out : (forceController cn m e s).out = s.out := rfl
@[simp] theorem forceController_inputs : (forceController cn m e s).inputs = s.inputs := rfl
end ForceController

section SetMode
variable (m : Mode) (s : State)
@[simp] theorem setMode_cfg : (setMode m s).cfg = s.cfg := rfl
@[simp] theorem setMode_conn : (setMode m s).conn = s.conn := rfl
@[simp] theorem setMode_mode : (setMode m s).mode = m := rfl
@[simp] theorem setMode_en : (setMode m s).en = gateOf m := rfl
@[simp] theorem setMode_seq : (setMode m s).seq = s.seq := rfl
@[simp] theorem setMode_tick : (setMode m s).tick = s.tick := rfl
@[simp] theorem setMode_out : (setMode m s).out = s.out := rfl
@[simp] theorem setMode_inputs : (setMode m s).inputs = s.inputs := rfl
end SetMode

section Counters
variable (s : State)
@[simp] theorem advanceCounters_cfg : (advanceCounters s).cfg = s.cfg := rfl
@[simp] theorem advanceCounters_conn : (advanceCounters s).conn = s.conn := rfl
@[simp] theorem advanceCounters_mode : (advanceCounters s).mode = s.mode := rfl
@[simp] theorem advanceCounters_en : (advanceCounters s).en = s.en := rfl
@[simp] theorem advanceCounters_seq : (advanceCounters s).seq = s.seq + 1 := rfl
@[simp] theorem advanceCounters_tick : (advanceCounters s).tick = (s.tick + 1) % 2 ^ s.cfg.tickWidth := rfl
@[simp] theorem advanceCounters_out : (advanceCounters s).out = s.out := rfl
@[simp] theorem advanceCounters_inputs : (advanceCounters s).inputs = s.inputs := rfl
@[simp] theorem clearCounters_cfg : (clearCounters s).cfg = s.cfg := rfl
@[simp] theorem clearCounters_conn : (clearCounters s).conn = s.conn := rfl
@[simp] theorem clearCounters_mode : (clearCounters s).mode = s.mode := rfl
@[simp] theorem clearCounters_en : (clearCounters s).en = s.en := rfl
@[simp] theorem clearCounters_seq : (clearCounters s).seq = 0 := rfl
@[simp] theorem clearCounters_tick : (clearCounters s).tick = 0 := rfl
@[simp] theorem clearCounters_out : (clearCounters s).out = s.out := rfl
@[simp] theorem clearCounters_inputs : (clearCounters s).inputs = s.inputs := rfl
end Counters

section Inputs
variable (w : Evt13) (s : State)
@[simp] theorem consumeInput_cfg : (consumeInput s).cfg = s.cfg := rfl
@[simp] theorem consumeInput_conn : (consumeInput s).conn = s.conn := rfl
@[simp] theorem consumeInput_mode : (consumeInput s).mode = s.mode := rfl
@[simp] theorem consumeInput_en : (consumeInput s).en = s.en := rfl
@[simp] theorem consumeInput_seq : (consumeInput s).seq = s.seq := rfl
@[simp] theorem consumeInput_tick : (consumeInput s).tick = s.tick := rfl
@[simp] theorem consumeInput_out : (consumeInput s).out = s.out := rfl
@[simp] theorem consumeInput_inputs : (consumeInput s).inputs = s.inputs.tail := rfl
@[simp] theorem presentInput_cfg : (presentInput w s).cfg = s.cfg := rfl
@[simp] theorem presentInput_conn : (presentInput w s).conn = s.conn := rfl
@[simp] theorem presentInput_mode : (presentInput w s).mode = s.mode := rfl
@[simp] theorem presentInput_en : (presentInput w s).en = s.en := rfl
@[simp] theorem presentInput_seq : (presentInput w s).seq = s.seq := rfl
@[simp] theorem presentInput_tick : (presentInput w s).tick = s.tick := rfl
@[simp] theorem presentInput_out : (presentInput w s).out = s.out := rfl
@[simp] theorem presentInput_inputs : (presentInput w s).inputs = w :: s.inputs.tail := rfl
@[simp] theorem sampledWord_presentInput : sampledWord (presentInput w s) = w := rfl
end Inputs

end Sys2Proof.Machine
end

