-- ==== Sys2Proof/Laws/Ops.lean ====
section
/-! SUPPORT. What each shared operation can do, said once. -/

namespace Sys2Proof.Machine

/-! ## Configuration -/

/-- The constraints every configuration meets (spec/00_scope.md R6, R7). -/
theorem Config.constraints (c : Config) :
    1 ≤ c.amplitude ∧ c.amplitude ≤ 2 ^ 23 - 1 ∧ c.intervalFast < c.intervalMedium ∧
      c.intervalMedium < c.intervalSlow ∧ c.intervalSlow < 2 ^ c.intervalWidth ∧
      8 ≤ c.tickWidth ∧ 24 ≤ c.sampleInWidth :=
  of_decide_eq_true c.ok

/-! ## The frame buffer -/

theorem memWrite_zero (f : Frame) (a v : Nat) (h : a + 0 ≤ 52) : memWrite f a 0 v h = f := rfl

theorem memWrite_succ (f : Frame) (a n v : Nat) (h : a + (n + 1) ≤ 52) :
    memWrite f a (n + 1) v h =
      memWrite (f.set a (byteField v (8 * n)) (by omega)) (a + 1) n v (by omega) := rfl

/-- A write leaves every offset outside it as it was. -/
theorem memWrite_outside (f : Frame) (a n v : Nat) (h : a + n ≤ 52) (i : Nat) (hi : i < 52)
    (out : i < a ∨ a + n ≤ i) : (memWrite f a n v h)[i] = f[i] := by
  induction n generalizing f a with
  | zero => rfl
  | succ n ih =>
    rw [memWrite_succ, ih _ _ _ (by omega), Vector.getElem_set_ne]
    omega

/-- A write puts byte `k` of the number, counted from the most significant, at offset `a + k`. -/
theorem memWrite_inside (f : Frame) (a n v : Nat) (h : a + n ≤ 52) (k : Nat) (hk : k < n) :
    (memWrite f a n v h)[a + k] = byteField v (8 * (n - 1 - k)) := by
  induction n generalizing f a k with
  | zero => omega
  | succ n ih =>
    rw [memWrite_succ]
    cases k with
    | zero =>
      have := memWrite_outside (f.set a (byteField v (8 * n))) (a + 1) n v (by omega) a (by omega) (by omega)
      simpa using this
    | succ k =>
      have := ih (f.set a (byteField v (8 * n))) (a + 1) (by omega) k (by omega)
      have e : n + 1 - 1 - (k + 1) = n - 1 - k := by omega
      simp only [e, ← this]
      congr 1
      omega

/-- Every byte of the frame after a write. -/
theorem memWrite_getElem (f : Frame) (a n v : Nat) (h : a + n ≤ 52) (i : Nat) (hi : i < 52) :
    (memWrite f a n v h)[i] = if a ≤ i ∧ i < a + n then byteField v (8 * (n - 1 - (i - a))) else f[i] := by
  split
  · rename_i c
    have := memWrite_inside f a n v h (i - a) (by omega)
    simpa [Nat.add_sub_of_le c.1] using this
  · exact memWrite_outside f a n v h i hi (by omega)

/-! ## Commands and the tick -/

theorem command_disconnected (m : Mode) (s : State) (h : s.conn = false) : command m s = emit .silent s := by
  simp [command, h]

theorem command_same_mode (m : Mode) (s : State) (h : s.conn = true) (same : s.mode = m) :
    command m s = emit .silent (setMode m s) := by
  simp [command, h, same]

theorem command_other_mode (m : Mode) (s : State) (h : s.conn = true) (other : s.mode ≠ m) :
    command m s = emit (.req (intervalOf s.cfg m)) (setMode m s) := by
  simp [command, h, other]

/-- Everything a command can do. -/
theorem command_cases (m : Mode) (s : State) :
    (s.conn = false ∧ command m s = emit .silent s) ∨
    (s.conn = true ∧ s.mode = m ∧ command m s = emit .silent (setMode m s)) ∨
    (s.conn = true ∧ s.mode ≠ m ∧ command m s = emit (.req (intervalOf s.cfg m)) (setMode m s)) := by
  by_cases h : s.conn = true
  · by_cases e : s.mode = m
    · exact .inr (.inl ⟨h, e, command_same_mode m s h e⟩)
    · exact .inr (.inr ⟨h, e, command_other_mode m s h e⟩)
  · have h' : s.conn = false := by simpa using h
    exact .inl ⟨h', command_disconnected m s h'⟩

section CommandFrame
variable (m : Mode) (s : State)
@[simp] theorem command_cfg : (command m s).cfg = s.cfg := by unfold command; split <;> rfl
@[simp] theorem command_conn : (command m s).conn = s.conn := by unfold command; split <;> rfl
@[simp] theorem command_seq : (command m s).seq = s.seq := by unfold command; split <;> rfl
@[simp] theorem command_tick : (command m s).tick = s.tick := by unfold command; split <;> rfl
@[simp] theorem command_inputs : (command m s).inputs = s.inputs := by unfold command; split <;> rfl
end CommandFrame

section Tables
variable (c : Config)
@[simp] theorem intervalOf_streaming : intervalOf c .streaming = c.intervalFast := rfl
@[simp] theorem intervalOf_idle : intervalOf c .idle = c.intervalMedium := rfl
@[simp] theorem intervalOf_sleep : intervalOf c .sleep = c.intervalSlow := rfl
@[simp] theorem gateOf_streaming : gateOf .streaming = true := rfl
@[simp] theorem gateOf_idle : gateOf .idle = false := rfl
@[simp] theorem gateOf_sleep : gateOf .sleep = false := rfl
end Tables

theorem gateOpen_iff (s : State) : gateOpen s = true ↔ s.conn = true ∧ s.en = true := by
  simp [gateOpen]

/-- Everything a dispatch tick can do. -/
theorem execTick_cases {s t : State} (h : execTick s = .next t) :
    (gateOpen s = true ∧ t = emit (.tx (nextFrame s)) (advanceCounters s)) ∨
    (gateOpen s = false ∧ t = emit .silent s) := by
  unfold execTick at h
  split at h
  · rename_i g; exact .inl ⟨g, by simpa using h.symm⟩
  · rename_i g; exact .inr ⟨by simpa using g, by simpa using h.symm⟩

end Sys2Proof.Machine
end

