-- ==== Sys2Proof/Laws/Encoder.lean ====
section
/-! SUPPORT. Number fields and the loop of `Encode`, said once. -/

namespace Sys2Proof.Machine

/-- `trunc` as a remainder. -/
theorem trunc_eq_emod (n : Nat) (v : Int) : ((trunc n v : Nat) : Int) = v % 2 ^ n :=
  Int.toNat_of_nonneg (Int.emod_nonneg _ (by positivity))

/-- A pattern fits its width. -/
theorem trunc_lt (n : Nat) (v : Int) : trunc n v < 2 ^ n := by
  have hm := Int.emod_lt_of_pos v (show (0 : Int) < 2 ^ n by positivity)
  rw [← trunc_eq_emod] at hm
  exact_mod_cast hm

/-- One turn of the loop writes the sample's three bytes and nothing else. -/
theorem encodeSample_frame (b : Batch) (acc : Frame × Nat) (t : Fin 2) (ch : Fin 8) (i : Nat) (hi : i < 52) :
    (encodeSample b acc t ch).1[i] =
      if sampleOffset t ch ≤ i ∧ i < sampleOffset t ch + 3 then
        byteField (trunc 24 (b t ch)) (8 * (2 - (i - sampleOffset t ch)))
      else acc.1[i] := by
  simp only [encodeSample, memWrite_getElem]

/-- One turn of the loop adds the sample's three bytes to the running sum. -/
theorem encodeSample_sum (b : Batch) (acc : Frame × Nat) (t : Fin 2) (ch : Fin 8) :
    (encodeSample b acc t ch).2 =
      acc.2 + (pack24 (b t ch)).1.toNat + (pack24 (b t ch)).2.1.toNat + (pack24 (b t ch)).2.2.toNat := rfl

/-- The loop leaves the bytes outside the payload as they were. -/
theorem encodeSamples_outside (b : Batch) (acc : Frame × Nat) (i : Nat) (hi : i < 52) (out : i < 2 ∨ 50 ≤ i) :
    (encodeSamples b acc).1[i] = acc.1[i] := by
  simp only [encodeSamples, instants, channels, List.foldl_cons, List.foldl_nil, encodeSample_frame]
  obtain rfl | rfl | rfl | rfl : i = 0 ∨ i = 1 ∨ i = 50 ∨ i = 51 := by omega
  all_goals simp [sampleOffset]

/-- After the loop each payload byte is the byte of its own sample: no later turn overwrites it. -/
theorem encodeSamples_payload (b : Batch) (acc : Frame × Nat) (t : Fin 2) (ch : Fin 8) (j : Nat) (hj : j < 3) :
    (encodeSamples b acc).1[sampleOffset t ch + j]'(by have := (sampleOffset_in_payload t ch).2; omega) =
      byteField (trunc 24 (b t ch)) (8 * (2 - j)) := by
  simp only [encodeSamples, instants, channels, List.foldl_cons, List.foldl_nil, encodeSample_frame]
  fin_cases t <;> fin_cases ch <;> (obtain rfl | rfl | rfl : j = 0 ∨ j = 1 ∨ j = 2 := by omega) <;> simp [sampleOffset]

end Sys2Proof.Machine
end

