-- ==== Sys2Proof/Laws/PerInstr.lean ====
section
/-! SUPPORT. Facts about every operation as syntax, one lemma per constructor. -/

namespace Sys2Proof.Laws.EncodesItsRow

/-- The word of an operation matches that operation's row of spec/30_encoding.md R59. -/
def Statement (i : Instr) : Prop := ∀ r ∈ opRows, r.mnemonic = i.mnemonic → r.hits (encode i) = true

theorem reset : Statement .reset := by unfold Statement; decide
theorem disconnect : Statement .disconnect := by unfold Statement; decide
theorem connect : Statement .connect := by unfold Statement; decide
theorem cmdB : Statement .cmdB := by unfold Statement; decide
theorem cmdS : Statement .cmdS := by unfold Statement; decide
theorem cmdD : Statement .cmdD := by unfold Statement; decide
theorem cmdIgn (rxByte : Byte) : Statement (.cmdIgn rxByte) := by
  intro r hr hm
  obtain rfl : r = ⟨"CMD_IGN", 0x1E00, 0x0200⟩ := by
    simp only [opRows, List.mem_cons, List.not_mem_nil, or_false] at hr
    rcases hr with rfl | rfl | rfl | rfl | rfl | rfl | rfl | rfl | rfl <;> first | rfl | simp [Instr.mnemonic] at hm
  revert rxByte; unfold OpRow.hits encode; decide
theorem tick : Statement .tick := by unfold Statement; decide
theorem nop : Statement .nop := by unfold Statement; decide

end Sys2Proof.Laws.EncodesItsRow
end

