-- ==== Sys2Proof/Laws/Step.lean ====
section
/-! SUPPORT. What an operation and a step can do, said once, and the equations of a run. -/

namespace Sys2Proof.Machine

/-- What one operation makes of a state: the registers it forces, the command it gives, the frame it sends. -/
def Effect (s : State) (i : Instr) (t : State) : Prop :=
  match i with
  | .reset => t = emit .silent (clearCounters (forceController false .idle false s))
  | .disconnect => t = emit .silent (forceController false .idle false s)
  | .connect => t = emit (.req s.cfg.intervalFast) (forceController true .streaming false s)
  | .cmdB => t = command .streaming s
  | .cmdS => t = command .idle s
  | .cmdD => t = command .sleep s
  | .cmdIgn _ => t = emit .silent s
  | .tick =>
    (gateOpen s = true ∧ t = emit (.tx (nextFrame s)) (advanceCounters s)) ∨ (gateOpen s = false ∧ t = emit .silent s)
  | .nop => t = emit .silent s

/-- Inversion: a next state of `exec` is the operation's effect. -/
theorem exec_effect {i : Instr} {s t : State} (h : exec i s = .next t) : Effect s i t := by
  cases i with
  | reset => simpa [exec, execReset, Effect, eq_comm] using h
  | disconnect => simpa [exec, execDisconnect, Effect, eq_comm] using h
  | connect => simpa [exec, execConnect, Effect, eq_comm] using h
  | cmdB => simpa [exec, execCmdB, Effect, eq_comm] using h
  | cmdS => simpa [exec, execCmdS, Effect, eq_comm] using h
  | cmdD => simpa [exec, execCmdD, Effect, eq_comm] using h
  | cmdIgn b => simpa [exec, execCmdIgn, Effect, eq_comm] using h
  | tick => exact execTick_cases h
  | nop => simpa [exec, execNop, Effect, eq_comm] using h

/-- An operation changes neither the configuration nor the listed input words. -/
theorem Effect.frame {s t : State} {i : Instr} (e : Effect s i t) : t.cfg = s.cfg ∧ t.inputs = s.inputs := by
  cases i with
  | tick => obtain ⟨_, rfl⟩ | ⟨_, rfl⟩ := e <;> simp
  | _ => rw [show t = _ from e]; simp

/-- Inversion of a step. -/
theorem step_effect {s t : State} (h : step s = .next t) :
    Effect (consumeInput s) (decode (sampledWord s)) t := exec_effect h

/-! ## Runs -/

@[simp] theorem trace_zero (s : State) : trace 0 s = [] := rfl

theorem trace_succ {s t : State} (k : Nat) (h : step s = .next t) : trace (k + 1) s = t :: trace k t := by
  simp [trace, h]

@[simp] theorem after_zero (s : State) : after 0 s = s := rfl

theorem after_succ {s t : State} (k : Nat) (h : step s = .next t) : after (k + 1) s = after k t := by
  simp [after, h]

@[simp] theorem frames_nil : frames [] = [] := rfl

theorem frames_cons_tx {t : State} {f : Frame} (ts : List State) (h : t.out = .tx f) :
    frames (t :: ts) = f :: frames ts := by
  simp [frames, h, transmitted]

theorem frames_cons_other {t : State} (ts : List State) (h : transmitted t.out = none) :
    frames (t :: ts) = frames ts := by
  simp [frames, h]

@[simp] theorem events_nil : events [] = [] := rfl

theorem events_cons_silent {t : State} (ts : List State) (h : t.out = .silent) : events (t :: ts) = events ts := by
  simp [events, h]

theorem events_cons_other {t : State} (ts : List State) (h : t.out ≠ .silent) :
    events (t :: ts) = t.out :: events ts := by
  simp [events, h]

end Sys2Proof.Machine
end

