-- ==== Sys2Proof/Tests/Slice0.lean ====
section
/-! SUPPORT. The model's own tests. Expected results are those of spec/95_test_vectors.md, whose number stands beside each, or of
the rule named; the parameter sets EX1 to EX5 are that file's illustrations. The second half shows, for each statement
with hypotheses, a concrete case that meets them. -/

namespace Sys2Proof.Tests
open Sys2Proof Sys2Proof.Machine

/-! ## Helpers -/

/-- Parameter set EX1. -/
def ex1 : Config :=
  { startMarker := 0xA0, endMarker := 0xC0, amplitude := 0x7FFFFF, intervalFast := 6, intervalMedium := 80, intervalSlow := 400 }

/-- Parameter set EX5: equal markers, which also occur in the payload. -/
def ex5 : Config :=
  { startMarker := 0xA0, endMarker := 0xA0, amplitude := 0x5050A0, intervalFast := 6, intervalMedium := 80, intervalSlow := 400 }

/-- The state `(CONN, MODE, EN, SEQ, TICK)` of the spec's notation, under EX1. -/
def st (conn : Bool) (mode : Mode) (en : Bool) (seq : BitVec 8) (tick : Nat) (out : Output := .silent)
    (inputs : List Evt13 := []) : State :=
  { cfg := ex1, conn, mode, en, seq, tick, out, inputs }

/-- The next state, where there is one. -/
def nextOf : Host.Outcome State Fault Refusal → Option State
  | .next s => some s
  | .fault _ | .refused _ => none

/-- A next state's registers match, and its output is the frame of the given bytes. -/
def sends (o : Host.Outcome State Fault Refusal) (seq : BitVec 8) (tick : Nat) (bytes : List Byte) : Bool :=
  match nextOf o with
  | some t => t.seq == seq && t.tick == tick && (transmitted t.out).map Vector.toList == some bytes
  | none => false

/-- Three bytes four times. -/
def four (a b c : Byte) : List Byte := [a, b, c, a, b, c, a, b, c, a, b, c]

/-- `POS(ss)` of section 0. -/
def pos (ss : Byte) : List Byte :=
  [0xA0, ss] ++ four 0x7F 0xFF 0xFF ++ four 0x80 0 1 ++ four 0x7F 0xFF 0xFF ++ four 0x80 0 1 ++ [0xF0, 0xC0]

/-- `NEG(ss)` of section 0. -/
def neg (ss : Byte) : List Byte :=
  [0xA0, ss] ++ four 0x80 0 1 ++ four 0x7F 0xFF 0xFF ++ four 0x80 0 1 ++ four 0x7F 0xFF 0xFF ++ [0xF0, 0xC0]

/-! ## Well-formedness: each check refuses an ill-formed term -/

theorem test_wf_refuses_ignored_b : (Instr.cmdIgn 0x62).wf = false := by decide
theorem test_wf_refuses_ignored_s : (Instr.cmdIgn 0x73).wf = false := by decide
theorem test_wf_refuses_ignored_d : (Instr.cmdIgn 0x64).wf = false := by decide
theorem test_wf_accepts_upper_case : (Instr.cmdIgn 0x42).wf = true := by decide
theorem test_config_refuses_zero_amplitude : { ex1.toConfigArgs with amplitude := 0 }.wf = false := by decide
theorem test_config_refuses_wide_amplitude : { ex1.toConfigArgs with amplitude := 0x800000 }.wf = false := by decide
theorem test_config_refuses_equal_intervals : { ex1.toConfigArgs with intervalFast := 80 }.wf = false := by decide
theorem test_config_refuses_falling_intervals : { ex1.toConfigArgs with intervalSlow := 79 }.wf = false := by decide
theorem test_config_refuses_wide_interval : { ex1.toConfigArgs with intervalWidth := 8 }.wf = false := by decide
theorem test_config_refuses_narrow_counter : { ex1.toConfigArgs with tickWidth := 7 }.wf = false := by decide
theorem test_config_refuses_narrow_sample : { ex1.toConfigArgs with sampleInWidth := 23 }.wf = false := by decide

/-! ## Decoding (V-X) and the trace notation -/

/-- Rows 31, 27, 24, 6, 7, 8, 21, 4, 1 of V-X. -/
theorem test_decode_one_word_each :
    [0b1000000000000, 0b0100000000000, 0b0010000000000, 0b0001001100010, 0b0001001110011, 0b0001001100100,
      0b0001001111000, 0b0000100000000, 0b0000000000000].map decode =
    [.reset, .disconnect, .connect, .cmdB, .cmdS, .cmdD, .cmdIgn 0x78, .tick, .nop] := by decide

/-- Rows 2, 5, 22, 23, 26, 28, 30, 33 of V-X: several strobes, and a byte without its strobe. -/
theorem test_decode_priority :
    [0x0062, 0x01FF, 0x0362, 0x0300, 0x0764, 0x0C00, 0x0F62, 0x1FFF].map decode =
    [.nop, .tick, .cmdB, .cmdIgn 0, .connect, .disconnect, .disconnect, .reset] := by decide

/-- Rows 9 to 20 of V-X: the neighbours of the command bytes are no commands. -/
theorem test_decode_neighbours :
    [0x0261, 0x0263, 0x0265, 0x0272, 0x0274, 0x0242, 0x0253, 0x0244, 0x020A, 0x02E2].map decode =
    [.cmdIgn 0x61, .cmdIgn 0x63, .cmdIgn 0x65, .cmdIgn 0x72, .cmdIgn 0x74, .cmdIgn 0x42, .cmdIgn 0x53, .cmdIgn 0x44,
      .cmdIgn 0x0A, .cmdIgn 0xE2] := by decide

theorem test_decodeNat_rejects_bit13 : decodeTableWord 16 0x2000 = none := by decide

/-- R66, R67: `connect, b, tick*2`. -/
theorem test_items :
    ([Item.connect, .b, .times .tick 2].map Item.words).flatten = [0x0400, 0x0262, 0x0100, 0x0100] := by decide

/-! ## Operations, one step each (V-C, V-D, V-R) -/

/-- V-R row 1. -/
theorem test_reset : nextOf (exec .reset (st true .streaming true 200 1224)) = some (st false .idle false 0 0) := by decide

/-- V-C row 14: a second `connect` closes the gate again and requests again. -/
theorem test_connect_again :
    nextOf (exec .connect (st true .streaming true 3 3)) = some (st true .streaming false 3 3 (.req 6)) := by decide

/-- V-C row 15. -/
theorem test_disconnect : nextOf (exec .disconnect (st true .streaming true 3 3)) = some (st false .idle false 3 3) := by decide

/-- V-C row 7: the gate opens, no request. -/
theorem test_b_after_connect :
    nextOf (exec .cmdB (st true .streaming false 3 3 (.req 6))) = some (st true .streaming true 3 3) := by decide

/-- V-C row 17. -/
theorem test_b_from_idle :
    nextOf (exec .cmdB (st true .idle false 3 3)) = some (st true .streaming true 3 3 (.req 6)) := by decide

/-- V-C row 12. -/
theorem test_s : nextOf (exec .cmdS (st true .streaming true 3 3)) = some (st true .idle false 3 3 (.req 80)) := by decide

/-- V-C row 2: ignored while disconnected. -/
theorem test_s_disconnected : nextOf (exec .cmdS (st false .idle false 3 3)) = some (st false .idle false 3 3) := by decide

/-- V-C row 19. -/
theorem test_d : nextOf (exec .cmdD (st true .idle false 3 3)) = some (st true .sleep false 3 3 (.req 400)) := by decide

/-- V-C row 24: a repeated command requests nothing. -/
theorem test_d_again : nextOf (exec .cmdD (st true .sleep false 3 3)) = some (st true .sleep false 3 3) := by decide

/-- V-C row 16. -/
theorem test_ignored :
    nextOf (exec (.cmdIgn 0x78) (st true .streaming true 3 3)) = some (st true .streaming true 3 3) := by decide

/-- V-D row 13: both counters wrap. -/
theorem test_tick_wraps : sends (exec .tick (st true .streaming true 255 4294967295)) 0 0 (neg 0xFF) = true := by decide

/-- V-D row 5: gated off. -/
theorem test_tick_gated :
    nextOf (exec .tick (st true .sleep false 5 5 (.req 400))) = some (st true .sleep false 5 5) := by decide

/-- V-D row 14, after a step that emitted. -/
theorem test_nop : nextOf (exec .nop (st true .streaming true 5 5 (.req 6))) = some (st true .streaming true 5 5) := by decide

/-- V-D row 16: through the step, with `rx_byte` ignored. -/
theorem test_step_tick : sends (step (st true .streaming true 5 5 .silent [0x0178])) 6 6 (pos 0x05) = true := by decide

/-- R121: where no word is listed, `NOP`. -/
theorem test_step_without_word : nextOf (step (st true .idle false 9 9)) = some (st true .idle false 9 9) := by decide

theorem test_withFetchWord : ((st true .idle false 9 9).withFetchWord 16 0x0264).inputs = [0x0264] := by decide

/-! ## Generator and encoder (V-G, V-P, V-E) -/

/-- V-G1. -/
theorem test_levels :
    [0, 24, 25, 49, 50, 1249, 1250, 4294967274, 4294967275].map (level ex1) =
    [8388607, 8388607, -8388607, -8388607, 8388607, -8388607, 8388607, 8388607, -8388607] := by decide

/-- V-P: in range, at the ends and out of range. -/
theorem test_pack24 :
    [-1, 65536, -8388608, 8388608, -8388609, 305419896, -305419896].map pack24 =
    [(0xFF, 0xFF, 0xFF), (1, 0, 0), (0x80, 0, 0), (0x80, 0, 0), (0x7F, 0xFF, 0xFF), (0x34, 0x56, 0x78), (0xCB, 0xA9, 0x88)] := by
  decide

/-- V-P, "reads back". -/
theorem test_sext24 : [0xABCDEF, 0x800000, 0x7FFFFF].map (sext 24) = [-5517841, -8388608, 8388607] := by decide

/-- V-E3: the order of channels and instants. -/
theorem test_encode_order :
    (encodeFrame ex1 255 (fun t ch => if t = 0 then (ch.val : Int) + 1 else -((ch.val : Int) + 1))).toList =
    [0xA0, 0xFF, 0, 0, 1, 0, 0, 2, 0, 0, 3, 0, 0, 4, 0, 0, 5, 0, 0, 6, 0, 0, 7, 0, 0, 8] ++
    [0xFF, 0xFF, 0xFF, 0xFF, 0xFF, 0xFE, 0xFF, 0xFF, 0xFD, 0xFF, 0xFF, 0xFC, 0xFF, 0xFF, 0xFB, 0xFF, 0xFF, 0xFA, 0xFF, 0xFF,
      0xF9, 0xFF, 0xFF, 0xF8, 0xF0, 0xC0] := by decide

/-- V-E2: the largest payload sum. -/
theorem test_encode_largest_sum :
    (encodeFrame ex1 1 (fun _ _ => -1)).toList = [0xA0, 0x01] ++ List.replicate 48 0xFF ++ [0xD0, 0xC0] := by decide

/-- V-E9: markers inside the payload are not escaped. -/
theorem test_encode_markers_in_payload :
    (encodeFrame ex5 0 (gen ex5 0)).toList =
    [0xA0, 0] ++ four 0x50 0x50 0xA0 ++ four 0xAF 0xAF 0x60 ++ four 0x50 0x50 0xA0 ++ four 0xAF 0xAF 0x60 ++ [0xF0, 0xA0] := by
  decide

/-! ## Pins (V-T, section 0) -/

/-- The 104-digit number of section 0. -/
theorem test_tx_frame :
    (txBus ⟨(pos 0).toArray, by decide⟩).toNat =
    0xA0007FFFFF7FFFFF7FFFFF7FFFFF8000018000018000018000017FFFFF7FFFFF7FFFFF7FFFFF800001800001800001800001F0C0 := by
  decide +kernel

/-- V-T edge 5. -/
theorem test_pins_after_s :
    (nextOf (step (st true .streaming true 1 1 .silent [0x0273]))).map outputPins =
    some { stConnected := true, stMode := 0b01, stEnabled := false, reqValid := true, reqInterval := some 80,
           txValid := false, txFrame := none } := by decide

/-- R112: the outputs of `connect, b, s, d, b` from reset, four requests. -/
theorem test_outputs_of_connect_b_s_d_b :
    (runOf { State.resetWith ex1 with inputs := [0x0400, 0x0262, 0x0273, 0x0264, 0x0262] }).map State.out =
    [.req 6, .silent, .req 80, .req 400, .req 6] := by decide

/-! ## Witnesses: for each statement with hypotheses, a case that meets them -/

/-- Input pins, all low but for the given ones. -/
def pins (rst disc conn rx tick : Bool) (byte : Byte := 0) : InputPins :=
  { rst := rst, evDisconnect := disc, evConnect := conn, rxValid := rx, tick := tick, rxByte := byte }

/-- An open gate at a reachable pair of counters. -/
def streaming5 : State := st true .streaming true 5 5

/-- `InputWordLayout`, third clause: each of its four cases, with a byte that would be a command. -/
theorem witness_InputWordLayout :
    (∃ p : InputPins, p.rst = true ∧ p.rxByte = 0x62) ∧ (∃ p : InputPins, p.evDisconnect = true ∧ p.rst = false) ∧
    (∃ p : InputPins, p.evConnect = true ∧ p.rst = false ∧ p.evDisconnect = false) ∧
    ∃ p : InputPins, p.rxValid = false ∧ p.tick = true :=
  ⟨⟨pins true false false true false 0x62, by decide⟩, ⟨pins false true false false false, by decide⟩,
    ⟨pins false false true false false, by decide⟩, ⟨pins false false false false true 0x62, by decide⟩⟩

/-- `OpcodeRowsAgreeWithDecoder`: a word two rows match, in either order. -/
theorem witness_OpcodeRowsAgreeWithDecoder :
    ∃ w : Evt13, (opRows.filter fun r => r.hits w).map OpRow.mnemonic = ["CMD_S", "CMD_IGN"] := ⟨0x0373, by decide⟩

/-- `DecodeEncodeAgree`: well-formed operations, `CMD_IGN` at the ends of its range, and a word of each row. -/
theorem witness_DecodeEncodeAgree :
    (∀ i ∈ [Instr.reset, .disconnect, .connect, .cmdB, .cmdS, .cmdD, .cmdIgn 0, .cmdIgn 0xFF, .tick, .nop], i.wf = true) ∧
    decode 0x03FF = .cmdIgn 0xFF := by decide

/-- `StepRunsDecodedOperation`: a listed word, and none. -/
theorem witness_StepRunsDecodedOperation :
    (∃ s : State, s.inputs = [0x0100, 0x0262]) ∧ ∃ s : State, s.inputs = [] :=
  ⟨⟨st true .idle false 0 0 .silent [0x0100, 0x0262], rfl⟩, ⟨streaming5, rfl⟩⟩

/-- `ResetForcesEveryRegister`. -/
theorem witness_ResetForcesEveryRegister :
    (∃ p : InputPins, p.rst = true ∧ p.evConnect = true) ∧ (∃ t, exec .reset streaming5 = .next t) ∧
    ∃ t, exec .tick streaming5 = .next t ∧ t.seq ≠ streaming5.seq :=
  ⟨⟨pins true false true false false, by decide⟩, ⟨_, rfl⟩, ⟨_, rfl, by decide⟩⟩

/-- `ConnectForcesStreaming` and `DisconnectForcesIdle`. -/
theorem witness_connection_events :
    (∃ p : InputPins, p.rst = false ∧ p.evDisconnect = false ∧ p.evConnect = true ∧ p.rxValid = true) ∧
    (∃ p : InputPins, p.rst = false ∧ p.evDisconnect = true ∧ p.evConnect = true) ∧
    (∃ t, exec .disconnect streaming5 = .next t) ∧ ∃ s t : State, s.conn = false ∧ exec .tick s = .next t :=
  ⟨⟨pins false false true true true 0x64, by decide⟩, ⟨pins false true true false false, by decide⟩, ⟨_, rfl⟩,
    ⟨st false .idle false 5 5, _, rfl, rfl⟩⟩

/-- `CommandsSetModeAndGate`: each command byte, a connected and a disconnected state. -/
theorem witness_CommandsSetModeAndGate :
    (∀ b ∈ [(0x62 : Byte), 0x73, 0x64], ∃ p : InputPins,
      p.rst = false ∧ p.evDisconnect = false ∧ p.evConnect = false ∧ p.rxValid = true ∧ p.rxByte = b) ∧
    (∃ s t : State, s.conn = true ∧ exec .cmdS s = .next t) ∧ ∃ s : State, s.conn = false :=
  ⟨fun b _ => ⟨pins false false false true false b, rfl, rfl, rfl, rfl, rfl⟩, ⟨streaming5, _, rfl, rfl⟩,
    ⟨st false .idle false 0 0, rfl⟩⟩

/-- `BytesIgnoredWhileDisconnected`, with a command byte. -/
theorem witness_BytesIgnoredWhileDisconnected :
    ∃ (s : State) (p : InputPins), s.conn = false ∧ s.inputs = [p.word, 0x0400] ∧
      p.rst = false ∧ p.evDisconnect = false ∧ p.evConnect = false ∧ p.rxValid = true ∧ p.rxByte = 0x62 :=
  ⟨st false .idle false 0 0 .silent [(pins false false false true true 0x62).word, 0x0400], pins false false false true true 0x62,
    by decide⟩

/-- `UnrecognisedByteDoesNothing`, at the neighbours of the command bytes and the ends of the range. -/
theorem witness_UnrecognisedByteDoesNothing :
    ∀ b ∈ [(0x00 : Byte), 0x61, 0x63, 0x65, 0x72, 0x74, 0xFF],
      (pins false false false true false b).rxByte ≠ 0x62 ∧ (pins false false false true false b).rxByte ≠ 0x73 ∧
      (pins false false false true false b).rxByte ≠ 0x64 := by decide

/-- `TransitionTable`: a state of each row. -/
theorem witness_TransitionTable :
    ∀ c ∈ [(false, Mode.idle, false), (true, .streaming, false), (true, .streaming, true), (true, .idle, false),
        (true, .sleep, false)],
      ((st c.1 c.2.1 c.2.2 3 3).conn, (st c.1 c.2.1 c.2.2 3 3).mode, (st c.1 c.2.1 c.2.2 3 3).en) = c := by decide

/-- `RequestsExactlyOnModeChange` and `OnlyThreeIntervalsRequested`: a step that requests each interval. -/
theorem witness_requests :
    (∃ t, step (st false .idle false 3 3 .silent [0x0400]) = .next t ∧ t.out = .req 6) ∧
    (∃ t, step (st true .sleep false 3 3 .silent [0x0273]) = .next t ∧ t.out = .req 80) ∧
    ∃ t, step (st true .streaming true 3 3 .silent [0x0264]) = .next t ∧ t.out = .req 400 :=
  ⟨⟨_, rfl, by decide⟩, ⟨_, rfl, by decide⟩, ⟨_, rfl, by decide⟩⟩

/-- `TickEmitsOneFrame` and `NopDoesNothing`: pins that select them; an open gate, and the three ways it is closed. -/
theorem witness_dispatch :
    (∃ p : InputPins, p.rst = false ∧ p.evDisconnect = false ∧ p.evConnect = false ∧ p.rxValid = false ∧ p.tick = true) ∧
    (∃ p : InputPins, p.rst = false ∧ p.evDisconnect = false ∧ p.evConnect = false ∧ p.rxValid = false ∧ p.tick = false) ∧
    (∃ s : State, s.conn = true ∧ s.en = true) ∧
    ∀ s ∈ [st true .idle false 5 5, st false .idle false 5 5, st false .streaming true 5 5], ¬(s.conn = true ∧ s.en = true) :=
  ⟨⟨pins false false false false true, by decide⟩, ⟨pins false false false false false 0x62, by decide⟩,
    ⟨streaming5, by decide⟩, by decide⟩

/-- `GatedTicksDoNothing`, with three ticks. -/
theorem witness_GatedTicksDoNothing :
    ∃ s : State, s.en = false ∧ s.conn = true ∧ s.inputs = List.replicate 3 0x0100 :=
  ⟨st true .streaming false 5 5 .silent [0x0100, 0x0100, 0x0100], by decide⟩

/-- `TransmitsExactlyOnOpenTick`, `CountersChangeOnlyWithFrames` and `EmittedChannelsAreOpposite`: a step that emits. -/
theorem witness_transmits :
    ∃ (s t : State) (f : Frame), step s = .next t ∧ t.out = .tx f ∧ t.seq ≠ s.seq :=
  ⟨st true .streaming true 5 5 .silent [0x0100], _, _, rfl, rfl, by decide⟩

/-- `OnlyLinkEventsWriteConn`: `CONN` set and cleared. -/
theorem witness_OnlyLinkEventsWriteConn :
    (∃ s t : State, exec .connect s = .next t ∧ s.conn = false ∧ t.conn = true) ∧
    ∃ s t : State, exec .disconnect s = .next t ∧ s.conn = true ∧ t.conn = false :=
  ⟨⟨st false .idle false 0 0, _, rfl, rfl, rfl⟩, ⟨streaming5, _, rfl, rfl, rfl⟩⟩

/-- `OperationsFrame`: a next state of each kind of operation. -/
theorem witness_OperationsFrame :
    ∀ i ∈ [Instr.cmdB, .cmdS, .cmdD, .connect, .disconnect, .tick, .nop, .cmdIgn 0],
      (nextOf (exec i (st true .idle false 5 5))).isSome = true := by decide

/-- The invariant with the gate open (`StepKeepsInvariant`). -/
theorem witness_invariant_streaming : ReachableInv streaming5 := by
  constructor <;> simp [streaming5, st, ex1]

/-- `InvariantAllowsFiveControllerStates`: a state of the invariant with each of the five, counters before their wrap. -/
theorem witness_InvariantAllowsFiveControllerStates :
    ReachableInv (st false .idle false 255 255) ∧ ReachableInv (st true .streaming false 255 255) ∧
    ReachableInv (st true .streaming true 255 255) ∧ ReachableInv (st true .idle false 255 255) ∧
    ReachableInv (st true .sleep false 255 255) := by
  refine ⟨?_, ?_, ?_, ?_, ?_⟩ <;> constructor <;> simp [st, ex1]

/-- The invariant while disconnected, and an operation that is neither `CONNECT` nor `RESET` (`DisconnectedBlockWaits`). -/
theorem witness_DisconnectedBlockWaits :
    ∃ s t : State, ReachableInv s ∧ s.conn = false ∧ exec .cmdB s = .next t :=
  ⟨st false .idle false 255 255, _, by constructor <;> simp [st, ex1], rfl, rfl⟩

/-- `StepKeepsInvariant` at the wrap of both counters. -/
theorem witness_StepKeepsInvariant :
    ∃ s t : State, ReachableInv s ∧ step s = .next t ∧ s.tick = 4294967295 :=
  ⟨st true .streaming true 255 4294967295 .silent [0x0100], _, by constructor <;> simp [st, ex1], rfl, rfl⟩

/-- `CommandEffectIsImmediate`. -/
theorem witness_CommandEffectIsImmediate :
    (∃ s : State, s.conn = true ∧ s.inputs = [0x0262, 0x0100]) ∧
    ∀ w ∈ [(0x0273 : Evt13), 0x0264, 0x0800], ∃ s : State, s.en = true ∧ s.inputs = [w, 0x0100] :=
  ⟨⟨st true .sleep false 5 5 .silent [0x0262, 0x0100], by decide⟩,
    fun w _ => ⟨st true .streaming true 5 5 .silent [w, 0x0100], rfl, rfl⟩⟩

/-- `EveryListedStateIsReached`: the ends of the counter's range. -/
theorem witness_EveryListedStateIsReached : 0 < 2 ^ ex1.tickWidth ∧ 4294967295 < 2 ^ ex1.tickWidth := by decide

/-- `FramesAreNumberedConsecutively` and `FramesCountedFromReset`: a run without `RESET` that emits a frame. -/
theorem witness_numbered_frames :
    (∃ s : State, ReachableInv s ∧ (∀ w ∈ s.inputs, decode w ≠ .reset) ∧ (frames (runOf s)).length = 1) ∧
    ∃ ws : List Evt13, (∀ w ∈ ws, decode w ≠ .reset) ∧
      (frames (runOf { State.resetWith ex1 with inputs := ws })).length = 1 :=
  ⟨⟨st true .streaming true 5 5 .silent [0x0100, 0x0800, 0x0100], by constructor <;> simp [st, ex1],
      by simp only [st, List.forall_mem_cons, List.not_mem_nil, false_imp_iff, implies_true]; decide, rfl⟩,
    ⟨[0x0400, 0x0262, 0x0100],
      by simp only [List.forall_mem_cons, List.not_mem_nil, false_imp_iff, implies_true]; decide, rfl⟩⟩

/-- `NopStepsAreImmaterial`: a run with steps to leave out. -/
theorem witness_NopStepsAreImmaterial :
    ∃ s : State, (s.inputs.filter (fun w => decode w ≠ .nop)).length = 2 ∧ s.inputs.length = 4 :=
  ⟨st true .streaming true 5 5 .silent [0x0000, 0x0100, 0x00FF, 0x0273], by decide⟩

/-- `NoFrameBeforeBegin`, with ticks, a connection and an ignored byte. -/
theorem witness_NoFrameBeforeBegin :
    ∃ s : State, s.en = false ∧ (∀ w ∈ s.inputs, decode w ≠ .cmdB) ∧ s.inputs.length = 4 :=
  ⟨st true .idle false 5 5 .silent [0x0100, 0x0400, 0x0278, 0x0100], rfl,
    by simp only [st, List.forall_mem_cons, List.not_mem_nil, false_imp_iff, implies_true]; decide, rfl⟩

/-- `ChannelHalvesAreOpposite` and `LevelAlternatesEvery25`, at the ends of their ranges. -/
theorem witness_generator_ranges : (0 : Fin 8).val < 4 ∧ (3 : Fin 8).val < 4 ∧ 0 < 25 ∧ 24 < 25 := by decide

/-- `CounterWrapShortensOneLevel`: an open gate at the counter's last value. -/
theorem witness_CounterWrapShortensOneLevel :
    ∃ s : State, s.conn = true ∧ s.en = true ∧ s.tick = 2 ^ s.cfg.tickWidth - 1 :=
  ⟨st true .streaming true 255 4294967295, by decide⟩

/-- `SamplePacksToLow24Bits` and `SampleWidthIsImmaterial`, at the ends of their ranges. -/
theorem witness_sample_ranges :
    (∀ v ∈ [(-8388608 : Int), 0, 8388607], -(2 ^ 23) ≤ v ∧ v ≤ 2 ^ 23 - 1) ∧ 24 ≤ 24 ∧ 24 ≤ ex1.sampleInWidth := by decide

/-- `FrameDeterminesItsContents`: batches that differ by a multiple of `2^24`. -/
theorem witness_FrameDeterminesItsContents :
    ∃ b b' : Batch, b 0 0 ≠ b' 0 0 ∧ ∀ t ch, b t ch % 2 ^ 24 = b' t ch % 2 ^ 24 :=
  ⟨fun _ _ => 1, fun _ _ => 16777217, by decide⟩

/-- `GeneratedFramesShareOneChecksum`: the amplitude of its last clause, and opposite levels on both sides of a change. -/
theorem witness_GeneratedFramesShareOneChecksum :
    ∃ c : Config, c.amplitude = 0x7FFFFF ∧ level c 25 = -level c 24 ∧ level c 50 = -level c 49 :=
  ⟨ex1, by decide⟩

/-- `FrameOnTheBus`, at both ends of the frame. -/
theorem witness_FrameOnTheBus : 0 < 52 ∧ 51 < 52 := by decide

end Sys2Proof.Tests
end

section
/-! Completion: no operation ends in a fault or a refusal, so neither does a step (spec/00_scope.md R10,
spec/60_exceptions.md R130). -/

namespace Sys2Proof.Machine

theorem execTick_of_gateOpen {s : State} (g : gateOpen s = true) :
    execTick s = .next (emit (.tx (nextFrame s)) (advanceCounters s)) := if_pos g

theorem execTick_of_gateClosed {s : State} (g : gateOpen s = false) : execTick s = .next (emit .silent s) :=
  if_neg (by simp [g])

/-- The gate is the one condition an operation's outcome branches on, and both of its sides complete. -/
theorem execTick_completes (s : State) : ∃ t, execTick s = .next t := by
  cases g : gateOpen s with
  | true => exact ⟨_, execTick_of_gateOpen g⟩
  | false => exact ⟨_, execTick_of_gateClosed g⟩

theorem exec_completes (i : Instr) (s : State) : ∃ t, exec i s = .next t := by
  cases i with
  | tick => exact execTick_completes s
  | reset | disconnect | connect | cmdB | cmdS | cmdD | cmdIgn _ | nop => exact ⟨_, rfl⟩

theorem step_completes (s : State) : ∃ t, step s = .next t :=
  exec_completes (decode (sampledWord s)) (consumeInput s)

/-- Settles O8: every operation completes, and a step is the operation its input word selects. -/
theorem everyOperationCompletes : Obligations.EveryOperationCompletes :=
  ⟨exec_completes, step_completes⟩

end Sys2Proof.Machine
end

section
/-! The step, the reset values and the output pins, each read off its definition (spec/10_state.md R30 to R32, R35). -/

namespace Sys2Proof.Machine

theorem step_of_cons {s : State} {w : Evt13} {ws : List Evt13} (h : s.inputs = w :: ws) :
    step s = exec (decode w) { s with inputs := ws } := by
  simp [step, sampledWord, consumeInput, h]

theorem step_of_nil {s : State} (h : s.inputs = []) : step s = exec .nop s := by
  have noStrobe : decode 0 = .nop := by decide
  have kept : consumeInput s = s := by rw [consumeInput, h, List.tail_nil, ← h]
  rw [step, sampledWord, h, List.headD_nil, noStrobe, kept]

/-- Settles O7: the sampled word is the head of the list, or 0, which decodes to `NOP`, where the list is empty. -/
theorem stepRunsDecodedOperation : Obligations.StepRunsDecodedOperation :=
  ⟨fun _ _ _ => step_of_cons, fun _ => step_of_nil⟩

/-- Settles O12: the state `RESET` leads to is written out by `execReset`, and its pins compute. -/
theorem resetStateValues : Obligations.ResetStateValues :=
  ⟨⟨rfl, rfl, rfl, rfl, rfl, rfl⟩, fun _ => ⟨_, rfl, rfl, rfl, rfl, rfl, rfl, rfl⟩⟩

/-- Settles O52: the mode's code is looked at for each of the three modes; the pins do not mention the counters. -/
theorem statusPinsShowRegisters : Obligations.StatusPinsShowRegisters := by
  intro s
  have code : (outputPins s).stMode = modeBits s.mode := rfl
  refine ⟨rfl, rfl, ?_, ?_, fun _ _ => rfl⟩
  · rw [code]
    cases s.mode <;> rfl
  · rw [code]
    cases s.mode <;> decide

/-- Settles O53: one output at a time is emitted, and each valid bit is 1 for its own kind only. -/
theorem eventPinsShowOutput : Obligations.EventPinsShowOutput := by
  intro s
  cases out : s.out with
  | silent | req _ | tx _ => simp [outputPins, out, requested, transmitted]

end Sys2Proof.Machine
end

section
/-! The invariant of the reachable states in three parts: the controller state, the counters, the output
(spec/10_state.md R33). Each part has its own lemma about what an operation makes of it. -/

namespace Sys2Proof.Machine

/-- The five values of (`CONN`, `MODE`, `EN`) that lines 2 to 4 of spec/10_state.md R33 leave. -/
def controllerStates : List (Bool × Mode × Bool) :=
  [(false, .idle, false), (true, .streaming, false), (true, .streaming, true), (true, .idle, false), (true, .sleep, false)]

/-- `TICK` is in range and `SEQ` is its low byte (spec/10_state.md R25, R33 line 6). -/
def CountersAgree (s : State) : Prop := s.tick < 2 ^ s.cfg.tickWidth ∧ s.seq.toNat = s.tick % 256

/-- What an output says of the registers of the state it was emitted into (spec/42_power_mode_controller.md R111,
spec/43_dispatch.md R125). -/
def OutputAgrees (s : State) : Prop :=
  (∀ v, s.out = .req v → s.conn = true ∧ v = intervalOf s.cfg s.mode) ∧ (∀ f, s.out = .tx f → s.conn = true ∧ s.en = true)

theorem mem_controllerStates_iff (cn : Bool) (m : Mode) (e : Bool) :
    (cn, m, e) ∈ controllerStates ↔
      (cn = false → m = .idle ∧ e = false) ∧ (e = true → cn = true ∧ m = .streaming) ∧
        (m = .idle ∨ m = .sleep → e = false) := by
  cases m <;> revert cn e <;> decide

/-- What a command leaves while connected is one of the five. -/
theorem gateOf_mem_controllerStates (m : Mode) : (true, m, gateOf m) ∈ controllerStates := by
  cases m <;> decide

/-- While connected a command moves to its mode and gate, whether or not it requests an interval. -/
theorem command_controller {s : State} (m : Mode) (conn : s.conn = true) :
    ((command m s).conn, (command m s).mode, (command m s).en) = (true, m, gateOf m) := by
  simp [command, conn]

theorem reachableInv_iff (s : State) :
    ReachableInv s ↔ (s.conn, s.mode, s.en) ∈ controllerStates ∧ CountersAgree s ∧ OutputAgrees s := by
  rw [mem_controllerStates_iff]
  constructor
  · rintro ⟨disc, enab, low, range, low8, req, tx⟩
    exact ⟨⟨disc, enab, low⟩, ⟨range, low8⟩, req, tx⟩
  · rintro ⟨⟨disc, enab, low⟩, ⟨range, low8⟩, req, tx⟩
    exact ⟨disc, enab, low, range, low8, req, tx⟩

/-- Both counters at 0 agree. -/
theorem CountersAgree.of_zero {s : State} (hseq : s.seq = 0) (htick : s.tick = 0) : CountersAgree s := by
  simp [CountersAgree, hseq, htick]

/-- Agreement is a matter of the counters and the configuration alone. -/
theorem CountersAgree.congr {s t : State} (a : CountersAgree s) (hcfg : t.cfg = s.cfg) (hseq : t.seq = s.seq)
    (htick : t.tick = s.tick) : CountersAgree t := by
  simpa only [CountersAgree, hcfg, hseq, htick] using a

/-- The counters stay in step also where both wrap, because 256 divides `2^TICK_WIDTH`. -/
theorem CountersAgree.advance {s : State} (a : CountersAgree s) : CountersAgree (advanceCounters s) := by
  obtain ⟨-, low8⟩ := a
  obtain ⟨-, -, -, -, -, width, -⟩ := Config.constraints s.cfg
  have dvd : 256 ∣ 2 ^ s.cfg.tickWidth := pow_dvd_pow 2 width
  refine ⟨Nat.mod_lt _ (by positivity), ?_⟩
  rw [advanceCounters_seq, advanceCounters_tick, Nat.mod_mod_of_dvd _ dvd, BitVec.toNat_add, low8]
  simp

/-- A state whose step emitted nothing. -/
theorem OutputAgrees.of_silent {s : State} (h : s.out = .silent) : OutputAgrees s := by simp [OutputAgrees, h]

theorem OutputAgrees.of_req {s : State} (hout : s.out = .req (intervalOf s.cfg s.mode)) (hconn : s.conn = true) :
    OutputAgrees s := by
  simp [OutputAgrees, hout, hconn]

theorem OutputAgrees.of_tx {s : State} {f : Frame} (hout : s.out = .tx f) (hconn : s.conn = true) (hen : s.en = true) :
    OutputAgrees s := by
  simp [OutputAgrees, hout, hconn, hen]

theorem command_mem_controllerStates {s : State} (m : Mode) (h : (s.conn, s.mode, s.en) ∈ controllerStates) :
    ((command m s).conn, (command m s).mode, (command m s).en) ∈ controllerStates := by
  cases conn : s.conn with
  | false => rw [command_disconnected m s conn]; exact h
  | true => rw [command_controller m conn]; exact gateOf_mem_controllerStates m

theorem outputAgrees_command (m : Mode) (s : State) : OutputAgrees (command m s) := by
  obtain ⟨_, eq⟩ | ⟨_, _, eq⟩ | ⟨conn, _, eq⟩ := command_cases m s
  · rw [eq]; exact .of_silent rfl
  · rw [eq]; exact .of_silent rfl
  · rw [eq]; exact .of_req rfl conn

/-- The controller goes from one of the five states to one of the five. -/
theorem Effect.mem_controllerStates {s t : State} {i : Instr} (e : Effect s i t)
    (h : (s.conn, s.mode, s.en) ∈ controllerStates) : (t.conn, t.mode, t.en) ∈ controllerStates := by
  cases i with
  | reset | disconnect | connect => obtain rfl := e; simp [controllerStates]
  | cmdB | cmdS | cmdD => obtain rfl := e; exact command_mem_controllerStates _ h
  | tick => obtain ⟨_, rfl⟩ | ⟨_, rfl⟩ := e <;> exact h
  | cmdIgn _ | nop => obtain rfl := e; exact h

/-- The counters after an operation: cleared by `RESET`, advanced by a `TICK` that sends a frame, otherwise kept. -/
theorem Effect.counters_cases {s t : State} {i : Instr} (e : Effect s i t) :
    (i = .reset ∧ t.seq = 0 ∧ t.tick = 0) ∨
    (i = .tick ∧ gateOpen s = true ∧ t = emit (.tx (nextFrame s)) (advanceCounters s)) ∨
    (t.seq = s.seq ∧ t.tick = s.tick) := by
  cases i with
  | reset => obtain rfl := e; simp
  | tick =>
    obtain ⟨g, rfl⟩ | ⟨_, rfl⟩ := e
    · exact .inr (.inl ⟨rfl, g, rfl⟩)
    · simp
  | disconnect | connect | cmdB | cmdS | cmdD | cmdIgn _ | nop => obtain rfl := e; simp

theorem Effect.countersAgree {s t : State} {i : Instr} (e : Effect s i t) (a : CountersAgree s) : CountersAgree t := by
  obtain ⟨_, hseq, htick⟩ | ⟨_, _, rfl⟩ | ⟨hseq, htick⟩ := e.counters_cases
  · exact .of_zero hseq htick
  · exact a.advance
  · exact a.congr e.frame.1 hseq htick

/-- What an operation emits agrees with the registers it leaves, from every state. -/
theorem Effect.outputAgrees {s t : State} {i : Instr} (e : Effect s i t) : OutputAgrees t := by
  cases i with
  | connect => obtain rfl := e; exact .of_req rfl rfl
  | cmdB | cmdS | cmdD => obtain rfl := e; exact outputAgrees_command _ s
  | tick =>
    obtain ⟨g, rfl⟩ | ⟨_, rfl⟩ := e
    · obtain ⟨conn, en⟩ := (gateOpen_iff s).mp g
      exact .of_tx rfl conn en
    · exact .of_silent rfl
  | reset | disconnect | cmdIgn _ | nop => obtain rfl := e; exact .of_silent rfl

theorem ReachableInv.effect {s t : State} {i : Instr} (inv : ReachableInv s) (e : Effect s i t) : ReachableInv t := by
  obtain ⟨ctl, counters, -⟩ := (reachableInv_iff s).mp inv
  exact (reachableInv_iff t).mpr ⟨e.mem_controllerStates ctl, e.countersAgree counters, e.outputAgrees⟩

/-- The invariant does not speak of the input words. -/
theorem ReachableInv.consume {s : State} (inv : ReachableInv s) : ReachableInv (consumeInput s) :=
  { inv with }

/-- Settles O30: each of the three parts of the invariant is kept by the effect of the operation the step selects. -/
theorem stepKeepsInvariant : Obligations.StepKeepsInvariant :=
  fun _ _ inv h => inv.consume.effect (step_effect h)

/-- The registers `RESET` leaves do not depend on those it finds. -/
theorem reachableInv_of_reset {s t : State} (h : exec .reset s = .next t) : ReachableInv t := by
  obtain rfl : t = _ := exec_effect h
  exact (reachableInv_iff _).mpr ⟨by simp [controllerStates], .of_zero rfl rfl, .of_silent rfl⟩

/-- `RESET` leaves the reset state as it is. -/
theorem reachableInv_resetWith (c : Config) : ReachableInv (State.resetWith c) :=
  reachableInv_of_reset (s := State.resetWith c) rfl

/-- Settles O31: at reset the controller is disconnected, the counters are 0, and nothing is emitted. -/
theorem resetEstablishesInvariant : Obligations.ResetEstablishesInvariant :=
  ⟨reachableInv_resetWith Config.board, reachableInv_resetWith, fun _ _ => reachableInv_of_reset⟩

/-- Settles O32: the second part takes the reset state with the controller forced to the given one of the five. -/
theorem invariantAllowsFiveControllerStates : Obligations.InvariantAllowsFiveControllerStates := by
  constructor
  · intro s inv
    exact ((reachableInv_iff s).mp inv).1
  · rintro c ⟨cn, m, e⟩ mem
    exact ⟨forceController cn m e (State.resetWith c),
      (reachableInv_iff _).mpr ⟨mem, .of_zero rfl rfl, .of_silent rfl⟩, rfl, rfl⟩

end Sys2Proof.Machine
end

section
/-! No operation reads the output of an earlier step (spec/10_state.md R28, R34). -/

namespace Sys2Proof.Machine

/-- Every operation drives the output afresh, so over either state it computes the same outcome. -/
theorem exec_emit (i : Instr) (o : Output) (s : State) : exec i (emit o s) = exec i s := by
  cases i with
  | reset | disconnect | connect | cmdB | cmdS | cmdD | cmdIgn _ | tick | nop => rfl

theorem step_emit (o : Output) (s : State) : step (emit o s) = step s :=
  exec_emit (decode (sampledWord s)) o (consumeInput s)

/-- A run lists the states after its steps only, so the first output is not among them. -/
theorem trace_emit (k : Nat) (o : Output) (s : State) : trace k (emit o s) = trace k s := by
  cases k with
  | zero => rfl
  | succ k =>
    obtain ⟨t, h⟩ := step_completes s
    rw [trace_succ k h, trace_succ k ((step_emit o s).trans h)]

/-- Settles O10: the step is the same, and so is every state of the run. -/
theorem outputsAreNeverRead : Obligations.OutputsAreNeverRead :=
  fun s o => ⟨step_emit o s, congrArg observation (trace_emit s.inputs.length o s)⟩

end Sys2Proof.Machine
end

section
/-! The batch of a `TICK` passes the encoder's input unchanged (spec/40_sample_generator.md R78). -/

namespace Sys2Proof.Machine

/-- A number in the two's complement range of `w` bits passes an input of that width unchanged. -/
theorem sampleIn_of_range {w : Nat} {v : Int} (hw : 0 < w) (lo : -(2 ^ (w - 1)) ≤ v) (hi : v < 2 ^ (w - 1)) :
    sampleIn w v = v := by
  obtain ⟨n, rfl⟩ : ∃ n, w = n + 1 := ⟨w - 1, by omega⟩
  rw [Nat.add_sub_cancel] at lo hi
  have double : (2 : Int) ^ (n + 1) = 2 * 2 ^ n := pow_succ' 2 n
  have pattern := trunc_eq_emod (n + 1) v
  have small : trunc (n + 1) v < 2 ^ n ↔ v % 2 ^ (n + 1) < 2 ^ n := by rw [← pattern]; norm_cast
  simp only [sampleIn, sext, Nat.add_sub_cancel, small, pattern]
  rcases lt_or_ge v 0 with neg | nonneg
  · have mod : v % 2 ^ (n + 1) = v + 2 ^ (n + 1) := by
      rw [← Int.add_emod_right, Int.emod_eq_of_lt] <;> omega
    rw [mod, if_neg (by omega)]
    omega
  · rw [Int.emod_eq_of_lt nonneg (by omega), if_pos hi]

theorem gen_eq_or (c : Config) (n : Nat) (t : Fin 2) (ch : Fin 8) :
    gen c n t ch = c.amplitude ∨ gen c n t ch = -(c.amplitude : Int) := by
  unfold gen level
  split <;> split <;> simp

/-- A generated batch passes the encoder's input unchanged: its magnitude is below `2^23` (spec/40_sample_generator.md
R78). -/
theorem widened_gen (c : Config) (n : Nat) : widened c (gen c n) = gen c n := by
  funext t ch
  obtain ⟨-, amplitude, -, -, -, -, width⟩ := Config.constraints c
  have wide : (2 : Int) ^ 23 ≤ 2 ^ (c.sampleInWidth - 1) := pow_le_pow_right₀ (by decide) (by omega)
  refine sampleIn_of_range (by omega) ?_ ?_
  · obtain h | h := gen_eq_or c n t ch <;> omega
  · obtain h | h := gen_eq_or c n t ch <;> omega

theorem nextFrame_eq (s : State) : nextFrame s = encodeFrame s.cfg s.seq (gen s.cfg s.tick) := by
  rw [nextFrame, widened_gen]

end Sys2Proof.Machine
end

section
/-! Who writes which register (spec/10_state.md R21, R24, R25). -/

namespace Sys2Proof.Machine

/-- `CONN` after an operation: set by `CONNECT`, cleared by `DISCONNECT` and `RESET`, otherwise kept. -/
theorem Effect.conn_cases {s t : State} {i : Instr} (e : Effect s i t) :
    (i = .connect ∧ t.conn = true) ∨ ((i = .disconnect ∨ i = .reset) ∧ t.conn = false) ∨ t.conn = s.conn := by
  cases i with
  | tick => obtain ⟨_, rfl⟩ | ⟨_, rfl⟩ := e <;> simp
  | reset | disconnect | connect | cmdB | cmdS | cmdD | cmdIgn _ | nop => obtain rfl := e; simp

/-- Settles O25: an operation that keeps `CONN` changes it in neither direction. -/
theorem onlyLinkEventsWriteConn : Obligations.OnlyLinkEventsWriteConn := by
  intro i s t h
  obtain ⟨rfl, conn⟩ | ⟨clears, conn⟩ | kept := (exec_effect h).conn_cases
  · simp [conn]
  · simp [conn, clears]
  · rw [kept]
    cases s.conn <;> simp

/-- Settles O26: of the three things an operation can do to the counters, keeping them changes neither. -/
theorem countersChangeOnlyWithFrames : Obligations.CountersChangeOnlyWithFrames := by
  intro i s t h changed
  obtain ⟨rfl, _, _⟩ | ⟨rfl, _, rfl⟩ | ⟨hseq, htick⟩ := (exec_effect h).counters_cases
  · exact .inl rfl
  · exact .inr ⟨rfl, by rw [emit_out, nextFrame_eq]⟩
  · simp [hseq, htick] at changed

/-- `TICK` leaves the controller alone, whether the gate is open or not. -/
theorem Effect.tick_controller {s t : State} (e : Effect s .tick t) : t.conn = s.conn ∧ t.mode = s.mode ∧ t.en = s.en := by
  obtain ⟨_, rfl⟩ | ⟨_, rfl⟩ := e <;> simp

/-- Settles O27: each clause is read off the effect of the operations it speaks of. -/
theorem operationsFrame : Obligations.OperationsFrame := by
  intro i s t h
  have e := exec_effect h
  refine ⟨e.frame.1, e.frame.2, fun isCommand => ?_, fun isEvent => ?_, ?_, fun isIdle => ?_⟩
  · simp only [List.mem_cons, List.not_mem_nil, or_false] at isCommand
    obtain rfl | rfl | rfl := isCommand <;> (obtain rfl := e; simp)
  · obtain rfl | rfl := isEvent <;> (obtain rfl := e; simp)
  · rintro rfl
    exact e.tick_controller
  · obtain rfl | ⟨b, rfl⟩ := isIdle <;> (obtain rfl := e; simp)

end Sys2Proof.Machine
end

section
/-! A run over input words, split into runs over parts of them, and the states it reaches from reset. -/

namespace Sys2Proof.Machine

theorem command_withInputs (m : Mode) (s : State) (ws : List Evt13) :
    command m { s with inputs := ws } = { command m s with inputs := ws } := by
  unfold command
  split <;> rfl

/-- An operation does not look at the input words to come. -/
theorem exec_withInputs {i : Instr} {s t : State} (ws : List Evt13) (h : exec i s = .next t) :
    exec i { s with inputs := ws } = .next { t with inputs := ws } := by
  have e := exec_effect h
  cases i with
  | tick =>
    obtain ⟨g, rfl⟩ | ⟨g, rfl⟩ := e
    · exact execTick_of_gateOpen (s := { s with inputs := ws }) g
    · exact execTick_of_gateClosed (s := { s with inputs := ws }) g
  | cmdB | cmdS | cmdD => obtain rfl := e; exact congrArg Host.Outcome.next (command_withInputs _ s ws)
  | reset | disconnect | connect | cmdIgn _ | nop => obtain rfl := e; rfl

theorem step_withInputs_cons {s t : State} {w : Evt13} (ws : List Evt13) (h : exec (decode w) s = .next t) :
    step { s with inputs := w :: ws } = .next { t with inputs := ws } :=
  (step_of_cons rfl).trans (exec_withInputs (s := s) ws h)

theorem endOf_nil (s : State) : endOf { s with inputs := [] } = { s with inputs := [] } := rfl

theorem endOf_cons {s t : State} {w : Evt13} (ws : List Evt13) (h : exec (decode w) s = .next t) :
    endOf { s with inputs := w :: ws } = endOf { t with inputs := ws } :=
  after_succ ws.length (step_withInputs_cons ws h)

theorem endOf_append (s : State) (ws us : List Evt13) :
    endOf { s with inputs := ws ++ us } = endOf { endOf { s with inputs := ws } with inputs := us } := by
  induction ws generalizing s with
  | nil => rfl
  | cons w ws ih =>
    obtain ⟨t, h⟩ := exec_completes (decode w) s
    rw [List.cons_append, endOf_cons _ h, endOf_cons _ h, ih]

/-- The states reached from the reset of a block by the operations of input words. -/
inductive Reached (c : Config) : State → Prop
  | atReset : Reached c (State.resetWith c)
  | afterWord {s t : State} (w : Evt13) : Reached c s → exec (decode w) s = .next t → Reached c t

theorem Reached.cfg_inputs {c : Config} {s : State} (r : Reached c s) : s.cfg = c ∧ s.inputs = [] := by
  induction r with
  | atReset => exact ⟨rfl, rfl⟩
  | afterWord w _ h ih =>
    obtain ⟨hcfg, hinputs⟩ := (exec_effect h).frame
    rwa [hcfg, hinputs]

theorem Reached.inv {c : Config} {s : State} (r : Reached c s) : ReachableInv s := by
  induction r with
  | atReset => exact reachableInv_resetWith c
  | afterWord w _ h ih => exact ih.effect (exec_effect h)

/-- A reached state is the end of a run from reset over some input words. -/
theorem Reached.exists_inputs {c : Config} {s : State} (r : Reached c s) :
    ∃ ws, endOf { State.resetWith c with inputs := ws } = s := by
  induction r with
  | atReset => exact ⟨[], rfl⟩
  | @afterWord s t w r h ih =>
    obtain ⟨ws, rfl⟩ := ih
    have last : t.inputs = [] := (r.afterWord w h).cfg_inputs.2
    refine ⟨ws ++ [w], ?_⟩
    rw [endOf_append, endOf_cons [] h, endOf_nil, ← last]

/-- Streaming with the gate open and the counter at `n`: `connect, b, tick*n`. -/
theorem exists_reached_streaming (c : Config) (n : Nat) (hn : n < 2 ^ c.tickWidth) :
    ∃ s, Reached c s ∧ s.conn = true ∧ s.mode = .streaming ∧ s.en = true ∧ s.tick = n := by
  induction n with
  | zero =>
    have connected := Reached.atReset.afterWord (c := c) (encode .connect) rfl
    exact ⟨_, connected.afterWord (encode .cmdB) rfl, rfl, rfl, rfl, rfl⟩
  | succ n ih =>
    obtain ⟨s, r, conn, mode, en, tick⟩ := ih (by omega)
    have sent := execTick_of_gateOpen ((gateOpen_iff s).mpr ⟨conn, en⟩)
    refine ⟨_, r.afterWord (encode .tick) sent, conn, mode, en, ?_⟩
    rw [emit_tick, advanceCounters_tick, tick, r.cfg_inputs.1, Nat.mod_eq_of_lt hn]

/-- From there one more word leads to each of the five controller states, and none of them moves the counter. -/
theorem exists_reached (c : Config) (n : Nat) (hn : n < 2 ^ c.tickWidth) :
    ∀ ctl ∈ controllerStates, ∃ s, Reached c s ∧ (s.conn, s.mode, s.en) = ctl ∧ s.tick = n := by
  obtain ⟨s, r, conn, mode, en, tick⟩ := exists_reached_streaming c n hn
  intro ctl mem
  simp only [controllerStates, List.mem_cons, List.not_mem_nil, or_false] at mem
  obtain rfl | rfl | rfl | rfl | rfl := mem
  · exact ⟨_, r.afterWord (encode .disconnect) rfl, rfl, tick⟩
  · exact ⟨_, r.afterWord (encode .connect) rfl, rfl, tick⟩
  · exact ⟨s, r, by rw [conn, mode, en], tick⟩
  · exact ⟨_, r.afterWord (encode .cmdS) rfl, command_controller .idle conn, (command_tick _ s).trans tick⟩
  · exact ⟨_, r.afterWord (encode .cmdD) rfl, command_controller .sleep conn, (command_tick _ s).trans tick⟩

/-- Settles O33: the value of `SEQ` follows from that of `TICK` by the invariant. -/
theorem everyListedStateIsReached : Obligations.EveryListedStateIsReached := by
  intro c n hn ctl mem
  obtain ⟨s, r, hctl, htick⟩ := exists_reached c n hn ctl mem
  obtain ⟨ws, rfl⟩ := r.exists_inputs
  refine ⟨ws, hctl, htick, BitVec.eq_of_toNat_eq ?_⟩
  rw [r.inv.seqFollowsTick, htick, BitVec.toNat_ofNat]

end Sys2Proof.Machine
end

section
/-! Every byte of an encoded frame, over any earlier contents of the buffer (spec/41_frame_encoder.md R88). -/

namespace Sys2Proof.Machine

/-- The payload offsets are those of the samples' bytes. -/
theorem exists_sampleOffset {i : Nat} (lo : 2 ≤ i) (hi : i < 50) :
    ∃ (t : Fin 2) (ch : Fin 8) (j : Nat), j < 3 ∧ i = sampleOffset t ch + j := by
  refine ⟨⟨(i - 2) / 24, by omega⟩, ⟨(i - 2) % 24 / 3, by omega⟩, (i - 2) % 3, by omega, ?_⟩
  simp only [sampleOffset]
  omega

/-- The running sum of the loop does not depend on the buffer. -/
theorem encodeSamples_sum_congr (b : Batch) (f g : Frame) (n : Nat) :
    (encodeSamples b (f, n)).2 = (encodeSamples b (g, n)).2 := by
  simp only [encodeSamples, instants, channels, List.foldl_cons, List.foldl_nil, encodeSample_sum]

section Bytes
variable (buf : Frame) (c : Config) (seq : Byte) (b : Batch)

theorem encodeInto_start : (encodeInto buf c seq b)[0] = c.startMarker := by
  simp [encodeInto, encodeSamples_outside]

theorem encodeInto_seq : (encodeInto buf c seq b)[1] = seq := by
  simp [encodeInto, encodeSamples_outside]

theorem encodeInto_payload (t : Fin 2) (ch : Fin 8) (j : Nat) (hj : j < 3) :
    (encodeInto buf c seq b)[sampleOffset t ch + j]'(by have := (sampleOffset_in_payload t ch).2; omega) =
      byteField (trunc 24 (b t ch)) (8 * (2 - j)) := by
  have inside := (sampleOffset_in_payload t ch).2
  simp only [encodeInto]
  rw [Vector.getElem_set_ne _ _ (by omega), Vector.getElem_set_ne _ _ (by omega), encodeSamples_payload b _ t ch j hj]

theorem encodeInto_checksum : (encodeInto buf c seq b)[50] = BitVec.ofNat 8 (encodeSamples b (blankFrame, 0)).2 := by
  simp [encodeInto, encodeSamples_sum_congr b _ blankFrame]

theorem encodeInto_end : (encodeInto buf c seq b)[51] = c.endMarker := by
  simp [encodeInto]

end Bytes

/-- Settles O47: at each offset the byte is that of a marker, the sequence number, a sample or the checksum. -/
theorem bufferContentsAreImmaterial : Obligations.BufferContentsAreImmaterial := by
  intro buf c seq b
  refine Vector.ext fun i hi => ?_
  by_cases payload : 2 ≤ i ∧ i < 50
  · obtain ⟨t, ch, j, hj, rfl⟩ := exists_sampleOffset payload.1 payload.2
    rw [encodeFrame, encodeInto_payload buf c seq b t ch j hj, encodeInto_payload blankFrame c seq b t ch j hj]
  · obtain rfl | rfl | rfl | rfl : i = 0 ∨ i = 1 ∨ i = 50 ∨ i = 51 := by omega
    · rw [encodeFrame, encodeInto_start, encodeInto_start]
    · rw [encodeFrame, encodeInto_seq, encodeInto_seq]
    · rw [encodeFrame, encodeInto_checksum, encodeInto_checksum]
    · rw [encodeFrame, encodeInto_end, encodeInto_end]

end Sys2Proof.Machine
end

section
/-! A step takes one input word, and a command takes effect in the step after it (spec/20_memory.md R45, R51). -/

namespace Sys2Proof.Machine

/-- Settles O9: the word is taken before the operation runs, and no operation writes the list or the configuration. -/
theorem stepConsumesOneWord : Obligations.StepConsumesOneWord := by
  intro s
  obtain ⟨t, h⟩ := step_completes s
  obtain ⟨hcfg, hinputs⟩ := (step_effect h).frame
  exact ⟨t, h, hinputs, hcfg⟩

/-- A command for a mode without streaming closes the gate and keeps both counters, connected or not. -/
theorem command_closes_gate {m : Mode} (s : State) (closed : gateOf m = false) :
    gateOpen (command m s) = false ∧ (command m s).seq = s.seq ∧ (command m s).tick = s.tick := by
  refine ⟨?_, command_seq m s, command_tick m s⟩
  cases conn : s.conn with
  | false => rw [gateOpen, command_conn, conn, Bool.false_and]
  | true => simp [gateOpen, command, conn, closed]

/-- `CMD_S`, `CMD_D` and `DISCONNECT` close the gate and keep both counters, from every state. -/
theorem Effect.closes_gate {s t : State} {i : Instr} (e : Effect s i t) (hi : i = .cmdS ∨ i = .cmdD ∨ i = .disconnect) :
    gateOpen t = false ∧ t.seq = s.seq ∧ t.tick = s.tick := by
  obtain rfl | rfl | rfl := hi <;> obtain rfl := e
  · exact command_closes_gate s gateOf_idle
  · exact command_closes_gate s gateOf_sleep
  · exact ⟨rfl, rfl, rfl⟩

theorem step_effect_of_cons {s t : State} {w : Evt13} {ws : List Evt13} (hs : s.inputs = w :: ws) (h : step s = .next t) :
    Effect (consumeInput s) (decode w) t := by
  have e := step_effect h
  rwa [sampledWord, hs, List.headD_cons] at e

/-- The state after a word and a `TICK` is what the tick makes of the state the word's operation leads to. -/
theorem exists_after_two {s : State} {w : Evt13} {ws : List Evt13} (hs : s.inputs = w :: 0x0100 :: ws) :
    ∃ t, Effect (consumeInput s) (decode w) t ∧ Effect (consumeInput t) .tick (after 2 s) := by
  obtain ⟨t, h⟩ := step_completes s
  obtain ⟨u, h'⟩ := step_completes t
  have e := step_effect_of_cons hs h
  have ht : t.inputs = 0x0100 :: ws := by rw [e.frame.2, consumeInput_inputs, hs, List.tail_cons]
  rw [after_succ 1 h, after_succ 0 h', after_zero]
  exact ⟨t, e, step_effect_of_cons ht h'⟩

theorem Effect.tick_of_gateOpen {s t : State} (e : Effect s .tick t) (g : gateOpen s = true) :
    t = emit (.tx (nextFrame s)) (advanceCounters s) := by
  obtain ⟨_, eq⟩ | ⟨closed, _⟩ := e
  · exact eq
  · simp [g] at closed

theorem Effect.tick_of_gateClosed {s t : State} (e : Effect s .tick t) (g : gateOpen s = false) : t = emit .silent s := by
  obtain ⟨opened, _⟩ | ⟨_, eq⟩ := e
  · simp [g] at opened
  · exact eq

/-- Settles O29: the tick sees the gate, the counters and the configuration as the operation before it left them. -/
theorem commandEffectIsImmediate : Obligations.CommandEffectIsImmediate := by
  refine fun s ws => ⟨fun conn hs => ?_, fun w hw hs => ?_⟩
  · obtain ⟨t, begun, ticked⟩ := exists_after_two hs
    obtain rfl : t = command .streaming (consumeInput s) := begun
    have opened : gateOpen (command .streaming (consumeInput s)) = true := by simp [gateOpen, command, conn]
    rw [ticked.tick_of_gateOpen opened, emit_out, nextFrame_eq]
    simp
  · obtain ⟨t, closing, ticked⟩ := exists_after_two hs
    have operation : decode w = .cmdS ∨ decode w = .cmdD ∨ decode w = .disconnect := by
      simp only [List.mem_cons, List.not_mem_nil, or_false] at hw
      obtain rfl | rfl | rfl := hw <;> decide
    obtain ⟨closed, hseq, htick⟩ := closing.closes_gate operation
    rw [ticked.tick_of_gateClosed closed]
    exact ⟨rfl, hseq, htick⟩

end Sys2Proof.Machine
end

section
/-! The layout of a frame and the sum in its checksum byte (spec/20_memory.md R41, spec/41_frame_encoder.md R86 to R88). -/

namespace Sys2Proof.Machine

/-- A byte field of a pattern, as the integer it is a part of. -/
theorem byteField_trunc (n lo : Nat) (v : Int) : byteField (trunc n v) lo = BitVec.ofInt 8 (v % 2 ^ n / 2 ^ lo) := by
  rw [← trunc_eq_emod, byteField, ← BitVec.ofInt_natCast]
  norm_cast

/-- The sum over the 48 payload offsets, in the order of `Encode`'s loop: three bytes for each instant and channel. -/
theorem sum_payload_offsets (g : Nat → Nat) :
    ((List.range 48).map fun k => g (2 + k)).sum =
      (instants.map fun t => (channels.map fun ch =>
        g (sampleOffset t ch) + g (sampleOffset t ch + 1) + g (sampleOffset t ch + 2)).sum).sum := by
  simp [List.range_succ, instants, channels, sampleOffset, add_assoc]

/-- The loop's running sum: the three bytes of each sample. -/
theorem encodeSamples_sum (b : Batch) (f : Frame) (n : Nat) :
    (encodeSamples b (f, n)).2 = n +
      (instants.map fun t => (channels.map fun ch =>
        (pack24 (b t ch)).1.toNat + (pack24 (b t ch)).2.1.toNat + (pack24 (b t ch)).2.2.toNat).sum).sum := by
  simp [encodeSamples, instants, channels, encodeSample_sum, add_assoc]

section Bytes
variable (buf : Frame) (c : Config) (seq : Byte) (b : Batch)

/-- Byte `j` of a sample, counted from the most significant, stands at the sample's offset and `j`. -/
theorem encodeInto_getElem?_payload (t : Fin 2) (ch : Fin 8) (j : Nat) (hj : j < 3) :
    (encodeInto buf c seq b)[sampleOffset t ch + j]? = some (byteField (trunc 24 (b t ch)) (8 * (2 - j))) := by
  have inside := (sampleOffset_in_payload t ch).2
  rw [Vector.getElem?_eq_getElem (by omega), encodeInto_payload buf c seq b t ch j hj]

theorem encodeFrame_getElem?_payload (t : Fin 2) (ch : Fin 8) (j : Nat) (hj : j < 3) :
    (encodeFrame c seq b)[2 + 24 * t.val + 3 * ch.val + j]? =
      some (BitVec.ofInt 8 (b t ch % 2 ^ 24 / 2 ^ (8 * (2 - j)))) := by
  rw [← byteField_trunc]
  exact encodeInto_getElem?_payload blankFrame c seq b t ch j hj

/-- The payload bytes add up to the running sum of `Encode`. -/
theorem encodeInto_payload_sum :
    ((List.range 48).map fun k => ((encodeInto buf c seq b).toList.getD (2 + k) 0).toNat).sum =
      (encodeSamples b (blankFrame, 0)).2 := by
  have byte (t : Fin 2) (ch : Fin 8) (j : Nat) (hj : j < 3) :
      (encodeInto buf c seq b).toList.getD (sampleOffset t ch + j) 0 = byteField (trunc 24 (b t ch)) (8 * (2 - j)) := by
    simp [encodeInto_getElem?_payload buf c seq b t ch j hj]
  have first (t : Fin 2) (ch : Fin 8) :
      (encodeInto buf c seq b).toList.getD (sampleOffset t ch) 0 = byteField (trunc 24 (b t ch)) 16 :=
    byte t ch 0 (by decide)
  rw [sum_payload_offsets fun i => ((encodeInto buf c seq b).toList.getD i 0).toNat, encodeSamples_sum, Nat.zero_add]
  simp only [first, byte _ _ 1 (by decide), byte _ _ 2 (by decide), pack24]

end Bytes

/-- Settles O45: the running sum reduced to a byte is the payload's sum modulo 256, and the sample bytes are the fields of
its 24-bit pattern. -/
theorem frameLayout : Obligations.FrameLayout := by
  intro c seq b
  refine ⟨encodeInto_start .., encodeInto_seq .., encodeInto_end .., ?_, fun t ch => ⟨?_, ?_, ?_⟩⟩
  · rw [encodeFrame, encodeInto_payload_sum, encodeInto_checksum, BitVec.toNat_ofNat]
  · simpa using encodeFrame_getElem?_payload c seq b t ch 0 (by decide)
  · simpa using encodeFrame_getElem?_payload c seq b t ch 1 (by decide)
  · simpa using encodeFrame_getElem?_payload c seq b t ch 2 (by decide)

end Sys2Proof.Machine
end

section
/-! The bytes of a frame on `tx_frame` (spec/20_memory.md R52). -/

namespace Sys2Proof.Machine

/-- Bytes read as one number, the first of them most significant: what `txBus` puts on the bus. -/
def bigEndian (bs : List Byte) : Nat := bs.foldl (fun acc b => acc * 256 + b.toNat) 0

theorem txBus_eq (f : Frame) : txBus f = BitVec.ofNat 416 (bigEndian f.toList) := rfl

theorem bigEndian_concat (bs : List Byte) (b : Byte) : bigEndian (bs ++ [b]) = bigEndian bs * 256 + b.toNat := by
  simp [bigEndian]

/-- Digit `i` of the number, counted from the most significant in base 256, is byte `i`. -/
theorem bigEndian_digit (bs : List Byte) (i : Nat) (hi : i < bs.length) :
    bigEndian bs / 256 ^ (bs.length - 1 - i) % 256 = bs[i].toNat := by
  induction bs using List.reverseRecOn with
  | nil => simp at hi
  | append_singleton bs b ih =>
    rw [bigEndian_concat]
    rw [List.length_append, List.length_singleton] at hi
    obtain last | before : i = bs.length ∨ i < bs.length := by omega
    · subst last
      simp [Nat.add_mod, Nat.mod_eq_of_lt b.isLt]
    · have shift : bs.length + 1 - 1 - i = 1 + (bs.length - 1 - i) := by omega
      have drop : (bigEndian bs * 256 + b.toNat) / 256 = bigEndian bs := by have := b.isLt; omega
      rw [List.length_append, List.length_singleton, shift, Nat.pow_add, pow_one, ← Nat.div_div_eq_div_mul, drop, ih before,
        List.getElem_append_left before]

/-- A bit field of a number that lies within its width is not touched by the reduction to that width. -/
theorem toNat_extractLsb'_ofNat {w lo len : Nat} (n : Nat) (h : lo + len ≤ w) :
    ((BitVec.ofNat w n).extractLsb' lo len).toNat = n / 2 ^ lo % 2 ^ len := by
  obtain ⟨r, rfl⟩ := Nat.exists_eq_add_of_le h
  rw [BitVec.extractLsb'_toNat, BitVec.toNat_ofNat, Nat.shiftRight_eq_div_pow, Nat.add_assoc, Nat.pow_add,
    Nat.mod_mul_right_div_self, Nat.mod_mod_of_dvd _ (pow_dvd_pow 2 (Nat.le_add_right len r))]

/-- Settles O51: offset `i` is digit `51 - i` of the bus in base 256, which begins at bit `408 - 8i`. -/
theorem frameOnTheBus : Obligations.FrameOnTheBus := by
  intro f i hi
  have weight : 2 ^ (408 - 8 * i) = 256 ^ (f.toList.length - 1 - i) := by
    rw [Vector.length_toList, show 408 - 8 * i = 8 * (52 - 1 - i) by omega, Nat.pow_mul]
  apply BitVec.eq_of_toNat_eq
  rw [txBus_eq, toNat_extractLsb'_ofNat _ (by omega), weight]
  exact bigEndian_digit f.toList i (by simpa using hi)

end Sys2Proof.Machine
end

section
/-! The bits of the input word, and what the decoder reads from them (spec/30_encoding.md R57, R58). -/

namespace Sys2Proof

/-! ## Word and pins determine each other -/

/-- A strobe in front of a word of `n` bits has weight `2^n`. -/
theorem toNat_ofBool_append {n : Nat} (b : Bool) (x : BitVec n) :
    (BitVec.ofBool b ++ x).toNat = 2 ^ n * b.toNat + x.toNat := by
  rw [BitVec.toNat_append, BitVec.toNat_ofBool, ← Nat.shiftLeft_add_eq_or_of_lt x.isLt, Nat.shiftLeft_eq, Nat.mul_comm]

theorem toNat_word (p : InputPins) : p.word.toNat =
    4096 * p.rst.toNat + 2048 * p.evDisconnect.toNat + 1024 * p.evConnect.toNat + 512 * p.rxValid.toNat +
      256 * p.tick.toNat + p.rxByte.toNat := by
  unfold InputPins.word
  iterate 5 rw [toNat_ofBool_append]
  omega

theorem toNat_getLsbD (w : Evt13) (i : Nat) : (w.getLsbD i).toNat = w.toNat / 2 ^ i % 2 :=
  Nat.toNat_testBit w.toNat i

theorem toNat_rxByte (w : Evt13) : (Evt13.rxByte w).toNat = w.toNat % 256 := by
  simp [Evt13.rxByte]

/-- The fields are the digits of the word, so together they give it back. -/
@[simp] theorem word_pins (w : Evt13) : (Evt13.pins w).word = w := by
  apply BitVec.eq_of_toNat_eq
  have bound := w.isLt
  simp only [toNat_word, Evt13.pins, Evt13.rst, Evt13.evDisconnect, Evt13.evConnect, Evt13.rxValid, Evt13.tick,
    toNat_getLsbD, toNat_rxByte]
  omega

theorem pins_injective : Function.Injective Evt13.pins := Function.LeftInverse.injective word_pins

@[simp] theorem rxByte_word (p : InputPins) : Evt13.rxByte p.word = p.rxByte := by
  apply BitVec.eq_of_toNat_eq
  have bound := p.rxByte.isLt
  rw [toNat_rxByte, toNat_word]
  omega

@[simp] theorem pins_word (p : InputPins) : Evt13.pins p.word = p := by
  rw [Evt13.pins, rxByte_word]
  simp only [Evt13.rst, Evt13.evDisconnect, Evt13.evConnect, Evt13.rxValid, Evt13.tick, InputPins.word,
    BitVec.getLsbD_append]
  simp

section Strobes
variable (p : InputPins)
@[simp] theorem rst_word : Evt13.rst p.word = p.rst := congrArg InputPins.rst (pins_word p)
@[simp] theorem evDisconnect_word : Evt13.evDisconnect p.word = p.evDisconnect :=
  congrArg InputPins.evDisconnect (pins_word p)
@[simp] theorem evConnect_word : Evt13.evConnect p.word = p.evConnect := congrArg InputPins.evConnect (pins_word p)
@[simp] theorem rxValid_word : Evt13.rxValid p.word = p.rxValid := congrArg InputPins.rxValid (pins_word p)
@[simp] theorem tick_word : Evt13.tick p.word = p.tick := congrArg InputPins.tick (pins_word p)
end Strobes

/-! ## The decoder -/

/-- The decoder over the pins: `rx_valid` is looked at once, and the received byte only where it is set. -/
theorem decode_word (p : InputPins) : decode p.word =
    if p.rst = true then .reset
    else if p.evDisconnect = true then .disconnect
    else if p.evConnect = true then .connect
    else if p.rxValid = true then
      if p.rxByte = 0x62 then .cmdB
      else if p.rxByte = 0x73 then .cmdS
      else if p.rxByte = 0x64 then .cmdD
      else .cmdIgn p.rxByte
    else if p.tick = true then .tick
    else .nop := by
  simp only [decode, rst_word, evDisconnect_word, evConnect_word, rxValid_word, tick_word, rxByte_word,
    Bool.and_eq_true, beq_iff_eq]
  cases p.rxValid with
  | true => simp only [true_and]; rfl
  | false => simp only [Bool.false_eq_true, false_and]; rfl

/-- Settles O1: the fields of the pins' word are the pins. -/
theorem decoderFollowsStrobePriority : Obligations.DecoderFollowsStrobePriority := decode_word

/-- Settles O2: where another strobe wins, or `rx_valid` is 0, the decoder takes a branch that does not read the byte. -/
theorem inputWordLayout : Obligations.InputWordLayout := by
  refine ⟨toNat_word, word_pins, fun p b loses => ?_⟩
  rw [decode_word, decode_word]
  obtain h | h | h | h := loses <;> simp [h]

/-- None of the three strobes that come before the received byte is set. -/
def NoEvent (w : Evt13) : Prop := Evt13.rst w = false ∧ Evt13.evDisconnect w = false ∧ Evt13.evConnect w = false

/-- What the decoder can answer for a word, and what it then read from it: one case for each line of
spec/30_encoding.md R58. -/
inductive Selects (w : Evt13) : Instr → Prop
  | reset (rst : Evt13.rst w = true) : Selects w .reset
  | disconnect (rst : Evt13.rst w = false) (disc : Evt13.evDisconnect w = true) : Selects w .disconnect
  | connect (rst : Evt13.rst w = false) (disc : Evt13.evDisconnect w = false) (conn : Evt13.evConnect w = true) :
      Selects w .connect
  | cmdB (quiet : NoEvent w) (rx : Evt13.rxValid w = true ∧ Evt13.rxByte w = 0x62) : Selects w .cmdB
  | cmdS (quiet : NoEvent w) (rx : Evt13.rxValid w = true ∧ Evt13.rxByte w = 0x73) : Selects w .cmdS
  | cmdD (quiet : NoEvent w) (rx : Evt13.rxValid w = true ∧ Evt13.rxByte w = 0x64) : Selects w .cmdD
  | cmdIgn (quiet : NoEvent w) (rx : Evt13.rxValid w = true) (other : isCommandByte (Evt13.rxByte w) = false) :
      Selects w (.cmdIgn (Evt13.rxByte w))
  | tick (quiet : NoEvent w) (rx : Evt13.rxValid w = false) (tick : Evt13.tick w = true) : Selects w .tick
  | nop (quiet : NoEvent w) (rx : Evt13.rxValid w = false) (tick : Evt13.tick w = false) : Selects w .nop

/-- Inversion of the decoder. -/
theorem selects_of_decode {w : Evt13} {i : Instr} (h : decode w = i) : Selects w i := by
  subst h
  unfold decode
  split_ifs with rst disc conn isB isS isD rx tick
  · exact .reset rst
  · exact .disconnect (by simpa using rst) disc
  · exact .connect (by simpa using rst) (by simpa using disc) conn
  all_goals have quiet : NoEvent w := ⟨by simpa using rst, by simpa using disc, by simpa using conn⟩
  · exact .cmdB quiet (by simpa using isB)
  · exact .cmdS quiet (by simpa using isS)
  · exact .cmdD quiet (by simpa using isD)
  · refine .cmdIgn quiet rx ?_
    rw [rx, Bool.true_and, Bool.not_eq_true] at isB isS isD
    rw [isCommandByte, isB, isS, isD, Bool.or_false, Bool.or_false]
  · exact .tick quiet (by simpa using rx) tick
  · exact .nop quiet (by simpa using rx) (by simpa using tick)

theorem decode_wf (w : Evt13) : (decode w).wf = true := by
  cases h : decode w with
  | cmdIgn b => cases selects_of_decode h with
    | cmdIgn _ _ other => rw [Instr.wf, other, Bool.not_false]
  | reset | disconnect | connect | cmdB | cmdS | cmdD | tick | nop => rfl

/-- The byte `CMD_IGN` carries is the received one. -/
theorem eq_rxByte_of_decode_cmdIgn {w : Evt13} {b : Byte} (h : decode w = .cmdIgn b) : b = Evt13.rxByte w := by
  cases selects_of_decode h
  rfl

/-- Settles O5: the nine words compute. -/
theorem writtenWordsDecode : Obligations.WrittenWordsDecode := by
  unfold Obligations.WrittenWordsDecode
  decide

end Sys2Proof
end

section
/-! The rows of the opcode map against the decoder (spec/30_encoding.md R59). -/

namespace Sys2Proof

/-- Pins masked field by field. -/
def InputPins.masked (p m : InputPins) : InputPins where
  rst := p.rst && m.rst
  evDisconnect := p.evDisconnect && m.evDisconnect
  evConnect := p.evConnect && m.evConnect
  rxValid := p.rxValid && m.rxValid
  tick := p.tick && m.tick
  rxByte := p.rxByte &&& m.rxByte

theorem pins_and (w m : Evt13) : Evt13.pins (w &&& m) = (Evt13.pins w).masked (Evt13.pins m) := by
  simp only [Evt13.pins, Evt13.rst, Evt13.evDisconnect, Evt13.evConnect, Evt13.rxValid, Evt13.tick, Evt13.rxByte,
    InputPins.masked, BitVec.getLsbD_and, BitVec.extractLsb'_and]

theorem hits_iff (r : OpRow) (w : Evt13) : r.hits w = true ↔ w &&& r.mask = r.value := beq_iff_eq

/-- A row is matched when each field of the word, under the row's mask, is that of the row's value. -/
theorem hits_eq_fields (r : OpRow) (w : Evt13) : r.hits w =
    ((Evt13.rst w && Evt13.rst r.mask) == Evt13.rst r.value &&
      (Evt13.evDisconnect w && Evt13.evDisconnect r.mask) == Evt13.evDisconnect r.value &&
      (Evt13.evConnect w && Evt13.evConnect r.mask) == Evt13.evConnect r.value &&
      (Evt13.rxValid w && Evt13.rxValid r.mask) == Evt13.rxValid r.value &&
      (Evt13.tick w && Evt13.tick r.mask) == Evt13.tick r.value &&
      (Evt13.rxByte w &&& Evt13.rxByte r.mask) == Evt13.rxByte r.value) := by
  rw [Bool.eq_iff_iff, hits_iff, ← pins_injective.eq_iff, pins_and]
  simp [Evt13.pins, InputPins.masked, and_assoc]

/-- What each of the nine rows asks of the strobes and of the received byte. -/
theorem hits_opRows (w : Evt13) : opRows.map (fun r => r.hits w) =
    let quiet := !Evt13.rst w && !Evt13.evDisconnect w && !Evt13.evConnect w
    [Evt13.rst w, !Evt13.rst w && Evt13.evDisconnect w, !Evt13.rst w && !Evt13.evDisconnect w && Evt13.evConnect w,
      quiet && Evt13.rxValid w && Evt13.rxByte w == 0x62, quiet && Evt13.rxValid w && Evt13.rxByte w == 0x73,
      quiet && Evt13.rxValid w && Evt13.rxByte w == 0x64, quiet && Evt13.rxValid w,
      quiet && !Evt13.rxValid w && Evt13.tick w, quiet && !Evt13.rxValid w && !Evt13.tick w] := by
  have whole (b : Byte) : b &&& 255#8 = b := BitVec.and_allOnes
  simp [opRows, hits_eq_fields, Evt13.rst, Evt13.evDisconnect, Evt13.evConnect, Evt13.rxValid, Evt13.tick,
    Evt13.rxByte, whole]

/-- The first row that matches a word is the decoded operation's: what the decoder read settles every row up to it. -/
theorem find_opRows (w : Evt13) : (opRows.find? fun r => r.hits w).map OpRow.mnemonic = some (decode w).mnemonic := by
  have rows := hits_opRows w
  simp only [opRows, List.map_cons, List.map_nil, List.cons.injEq, and_true] at rows
  simp only [opRows, List.find?_cons, rows]
  generalize h : decode w = i
  cases selects_of_decode h with
  | reset rst => simp only [rst]; rfl
  | disconnect rst disc => simp only [rst, disc]; rfl
  | connect rst disc conn => simp only [rst, disc, conn]; rfl
  | cmdB quiet rx | cmdS quiet rx | cmdD quiet rx =>
    obtain ⟨rst, disc, conn⟩ := quiet
    simp only [rst, disc, conn, rx]
    rfl
  | cmdIgn quiet rx other =>
    obtain ⟨rst, disc, conn⟩ := quiet
    simp only [isCommandByte, Bool.or_eq_false_iff] at other
    simp only [rst, disc, conn, rx, other]
    rfl
  | tick quiet rx tick | nop quiet rx tick =>
    obtain ⟨rst, disc, conn⟩ := quiet
    simp only [rst, disc, conn, rx, tick]
    rfl

/-- The values of two rows that match one word agree where both masks look. -/
theorem value_and_mask_of_hits {r r' : OpRow} {w : Evt13} (h : r.hits w = true) (h' : r'.hits w = true) :
    r.value &&& r'.mask = r'.value &&& r.mask := by
  rw [hits_iff] at h h'
  rw [← h, ← h', BitVec.and_assoc, BitVec.and_assoc, BitVec.and_comm r.mask]

/-- Settles O3: that the other pairs of rows disagree where both masks look is a finite fact about the table. -/
theorem opcodeRowsAgreeWithDecoder : Obligations.OpcodeRowsAgreeWithDecoder := by
  have overlaps : ∀ r ∈ opRows, ∀ r' ∈ opRows, r.value &&& r'.mask = r'.value &&& r.mask →
      r = r' ∨ (r.mnemonic = "CMD_IGN" ∧ r'.mnemonic ∈ ["CMD_B", "CMD_S", "CMD_D"]) ∨
        (r'.mnemonic = "CMD_IGN" ∧ r.mnemonic ∈ ["CMD_B", "CMD_S", "CMD_D"]) := by decide
  exact fun w => ⟨find_opRows w, fun r hr r' hr' h h' => overlaps r hr r' hr' (value_and_mask_of_hits h h')⟩

/-- The rows are told apart by their names. -/
theorem opRow_ext : ∀ r ∈ opRows, ∀ r' ∈ opRows, r.mnemonic = r'.mnemonic → r = r' := by decide

/-- The decoded operation's row matches the word. -/
theorem hits_of_mnemonic_decode {r : OpRow} {w : Evt13} (hr : r ∈ opRows) (name : r.mnemonic = (decode w).mnemonic) :
    r.hits w = true := by
  obtain ⟨r', found, name'⟩ := Option.map_eq_some_iff.mp (find_opRows w)
  obtain rfl := opRow_ext r hr r' (List.mem_of_find?_eq_some found) (name.trans name'.symm)
  exact List.find?_some (p := fun r => OpRow.hits r w) found

end Sys2Proof
end

section
/-! The encoder: the words of the operations and of the items of a trace (spec/30_encoding.md R66, R67). -/

namespace Sys2Proof

theorem encodesItsRow (i : Instr) : Laws.EncodesItsRow.Statement i := by
  cases i with
  | reset => exact Laws.EncodesItsRow.reset
  | disconnect => exact Laws.EncodesItsRow.disconnect
  | connect => exact Laws.EncodesItsRow.connect
  | cmdB => exact Laws.EncodesItsRow.cmdB
  | cmdS => exact Laws.EncodesItsRow.cmdS
  | cmdD => exact Laws.EncodesItsRow.cmdD
  | cmdIgn b => exact Laws.EncodesItsRow.cmdIgn b
  | tick => exact Laws.EncodesItsRow.tick
  | nop => exact Laws.EncodesItsRow.nop

theorem decode_rxWord {b : Byte} (other : isCommandByte b = false) : decode (rxWord b) = .cmdIgn b := by
  simp only [isCommandByte, Bool.or_eq_false_iff, beq_eq_false_iff_ne] at other
  obtain ⟨⟨notB, notS⟩, notD⟩ := other
  simp only [rxWord, decode_word, notB, notS, notD, Bool.false_eq_true, if_false, if_true]

theorem decode_encode {i : Instr} (wf : i.wf = true) : decode (encode i) = i := by
  cases i with
  | cmdIgn b => exact decode_rxWord (by simpa [Instr.wf] using wf)
  | reset | disconnect | connect | cmdB | cmdS | cmdD | tick | nop => decide

/-- Settles O4: the operation's own word and the word it was decoded from match the same row, so under its mask both are
the row's value. -/
theorem decodeEncodeAgree : Obligations.DecodeEncodeAgree := by
  refine ⟨fun i wf => decode_encode wf, fun w => ⟨decode_wf w, fun r hr name => ?_, fun b h => ?_⟩⟩
  · rw [(hits_iff r _).mp (encodesItsRow _ r hr name), (hits_iff r w).mp (hits_of_mnemonic_decode hr name)]
  · rw [h, encode, rxWord, rxByte_word, eq_rxByte_of_decode_cmdIgn h]

theorem toNat_rxWord (b : Byte) : (rxWord b).toNat = 0x0200 + b.toNat := by
  simp [rxWord, toNat_word]

theorem words_times_succ (item : Item) (n : Nat) :
    (Item.times item (n + 1)).words = item.words ++ (Item.times item n).words := by
  simp [Item.words, List.replicate_succ]

/-- Settles O6: all but `rx` and `item*N` stand for a word written in the definition. -/
theorem traceNotationWords : Obligations.TraceNotationWords :=
  ⟨rfl, rfl, rfl, rfl, rfl, rfl, fun b => congrArg (fun n => [n]) (toNat_rxWord b), rfl, rfl, fun _ => rfl,
    fun item n => ⟨rfl, words_times_succ item n⟩⟩

end Sys2Proof
end

section
/-! The numbers on the outputs: the requested interval and the packed sample (spec/30_encoding.md R62, R64). -/

namespace Sys2Proof.Machine

theorem intervalOf_eq_or (c : Config) (m : Mode) :
    intervalOf c m = c.intervalFast ∨ intervalOf c m = c.intervalMedium ∨ intervalOf c m = c.intervalSlow := by
  cases m <;> simp

/-- Settles O20: what is requested is the interval of a mode, and the slow interval, the largest, fits the width. -/
theorem onlyThreeIntervalsRequested : Obligations.OnlyThreeIntervalsRequested := by
  intro s t v h out
  have e := step_effect h
  have cfg : t.cfg = s.cfg := e.frame.1
  obtain ⟨-, rfl⟩ := e.outputAgrees.1 v out
  obtain ⟨-, -, fast, medium, slow, -, -⟩ := Config.constraints s.cfg
  rw [cfg]
  have three := intervalOf_eq_or s.cfg t.mode
  exact ⟨three, by omega⟩

theorem pack24_toNat (v : Int) :
    (pack24 v).1.toNat * 65536 + (pack24 v).2.1.toNat * 256 + (pack24 v).2.2.toNat = trunc 24 v := by
  have fits := trunc_lt 24 v
  simp only [pack24, byteField, BitVec.toNat_ofNat]
  omega

theorem trunc_add_mul (n : Nat) (v k : Int) : trunc n (v + k * 2 ^ n) = trunc n v := by
  rw [trunc, Int.add_mul_emod_self_right, trunc]

/-- Settles O43: the three bytes are the digits of the 24-bit pattern, and reading it back is passing an input of 24
bits. -/
theorem samplePacksToLow24Bits : Obligations.SamplePacksToLow24Bits := by
  refine fun v => ⟨?_, fun lo hi => ?_, fun k => ?_⟩
  · rw [pack24_toNat, trunc_eq_emod]
  · exact sampleIn_of_range (w := 24) (by decide) lo (by omega)
  · rw [pack24, trunc_add_mul, pack24]

end Sys2Proof.Machine
end

section
/-! The frames of a run without a `RESET` are numbered consecutively (spec/40_sample_generator.md R79,
spec/41_frame_encoder.md R89, spec/43_dispatch.md R125). -/

namespace Sys2Proof.Machine

/-- A frame leaves only by a `TICK` through an open gate; every other effect transmits nothing. -/
theorem Effect.transmits_cases {s t : State} {i : Instr} (e : Effect s i t) :
    (i = .tick ∧ gateOpen s = true ∧ t = emit (.tx (nextFrame s)) (advanceCounters s)) ∨ transmitted t.out = none := by
  cases i with
  | tick =>
    obtain ⟨g, rfl⟩ | ⟨_, rfl⟩ := e
    · exact .inl ⟨rfl, g, rfl⟩
    · exact .inr rfl
  | cmdB | cmdS | cmdD =>
    obtain rfl := e
    obtain ⟨_, eq⟩ | ⟨_, _, eq⟩ | ⟨_, _, eq⟩ := command_cases _ s <;> (rw [eq]; exact .inr rfl)
  | reset | disconnect | connect | cmdIgn _ | nop => obtain rfl := e; exact .inr rfl

/-- Without a `RESET`, an operation that transmits nothing keeps both counters. -/
theorem Effect.counters_kept {s t : State} {i : Instr} (e : Effect s i t) (hi : i ≠ .reset)
    (quiet : transmitted t.out = none) : t.seq = s.seq ∧ t.tick = s.tick := by
  obtain ⟨rfl, _⟩ | ⟨_, _, rfl⟩ | kept := e.counters_cases
  · exact absurd rfl hi
  · simp [transmitted] at quiet
  · exact kept

/-- Where no listed word is a `RESET`, no step is one: past the end of the list the steps are `NOP`s. -/
theorem decode_sampledWord_ne_reset {s : State} (noReset : ∀ w ∈ s.inputs, decode w ≠ .reset) :
    decode (sampledWord s) ≠ .reset := by
  cases hs : s.inputs with
  | nil => rw [sampledWord, hs]; decide
  | cons w ws => rw [sampledWord, hs]; exact noReset w (by simp [hs])

/-- The frame numbered `k` places on from the counters of `s`. -/
def numberedFrame (s : State) (k : Nat) : Frame :=
  encodeFrame s.cfg (BitVec.ofNat 8 ((s.seq.toNat + k) % 256)) (gen s.cfg ((s.tick + k) % 2 ^ s.cfg.tickWidth))

theorem numberedFrame_zero {s : State} (range : s.tick < 2 ^ s.cfg.tickWidth) : numberedFrame s 0 = nextFrame s := by
  rw [nextFrame_eq, numberedFrame, Nat.add_zero, Nat.add_zero, Nat.mod_eq_of_lt range, Nat.mod_eq_of_lt s.seq.isLt,
    BitVec.ofNat_toNat, BitVec.setWidth_eq]

/-- Numbering on from the advanced counters skips one frame, also where a counter wraps. -/
theorem numberedFrame_advance (o : Output) (s : State) (k : Nat) :
    numberedFrame (emit o (advanceCounters s)) k = numberedFrame s (k + 1) := by
  have seq : ((s.seq + 1).toNat + k) % 256 = (s.seq.toNat + (k + 1)) % 256 := by
    rw [BitVec.toNat_add]
    simp [add_assoc, add_comm 1 k]
  have tick : ((s.tick + 1) % 2 ^ s.cfg.tickWidth + k) % 2 ^ s.cfg.tickWidth =
      (s.tick + (k + 1)) % 2 ^ s.cfg.tickWidth := by
    rw [Nat.mod_add_mod, add_assoc, add_comm 1 k]
  simp only [numberedFrame, emit_cfg, emit_seq, emit_tick, advanceCounters_cfg, advanceCounters_seq,
    advanceCounters_tick, seq, tick]

theorem numberedFrame_congr {s t : State} (hcfg : t.cfg = s.cfg) (hseq : t.seq = s.seq) (htick : t.tick = s.tick) :
    numberedFrame t = numberedFrame s := by
  funext k
  rw [numberedFrame, hcfg, hseq, htick, numberedFrame]

/-- By induction on the steps: a step either sends frame 0 and advances the counters, or sends none and keeps them. -/
theorem exists_frames_trace (k : Nat) {s : State} (inv : ReachableInv s) (noReset : ∀ w ∈ s.inputs, decode w ≠ .reset) :
    ∃ n, frames (trace k s) = (List.range n).map (numberedFrame s) := by
  induction k generalizing s with
  | zero => exact ⟨0, rfl⟩
  | succ k ih =>
    obtain ⟨t, h⟩ := step_completes s
    have e := step_effect h
    obtain ⟨hcfg, hinputs⟩ := e.frame
    have noReset' : ∀ w ∈ t.inputs, decode w ≠ .reset := fun w hw =>
      noReset w (List.mem_of_mem_tail (by rwa [hinputs] at hw))
    obtain ⟨n, rest⟩ := ih (stepKeepsInvariant s t inv h) noReset'
    rw [trace_succ k h]
    obtain ⟨_, _, rfl⟩ | quiet := e.transmits_cases
    · refine ⟨n + 1, ?_⟩
      have later : numberedFrame _ = numberedFrame s ∘ Nat.succ :=
        funext (numberedFrame_advance (.tx (nextFrame (consumeInput s))) (consumeInput s))
      rw [frames_cons_tx _ (emit_out _ _), rest, later, List.range_succ_eq_map, List.map_cons, List.map_map,
        numberedFrame_zero inv.tickInRange]
      rfl
    · obtain ⟨hseq, htick⟩ := e.counters_kept (decode_sampledWord_ne_reset noReset) quiet
      rw [frames_cons_other _ quiet, rest, numberedFrame_congr hcfg hseq htick]
      exact ⟨n, rfl⟩

/-- Settles O34: the number of frames in the numbering is the length of the list. -/
theorem framesAreNumberedConsecutively : Obligations.FramesAreNumberedConsecutively := by
  intro s inv noReset
  obtain ⟨n, numbered⟩ := exists_frames_trace s.inputs.length inv noReset
  have count : (frames (runOf s)).length = n := by rw [runOf, numbered, List.length_map, List.length_range]
  rw [count]
  exact numbered

end Sys2Proof.Machine
end

section
/-! The level and the batch as functions of the counter (spec/40_sample_generator.md R76 to R83). -/

namespace Sys2Proof.Machine

theorem level_of_even {c : Config} {n : Nat} (even : n / 25 % 2 = 0) : level c n = c.amplitude := if_pos even

theorem level_of_odd {c : Config} {n : Nat} (odd : n / 25 % 2 = 1) : level c n = -(c.amplitude : Int) :=
  if_neg (by omega)

theorem gen_of_lt {ch : Fin 8} (h : ch.val < 4) (c : Config) (n : Nat) (t : Fin 2) : gen c n t ch = level c n :=
  if_pos h

theorem gen_of_ge {ch : Fin 8} (h : 4 ≤ ch.val) (c : Config) (n : Nat) (t : Fin 2) : gen c n t ch = -level c n :=
  if_neg (by omega)

/-- Settles O38: `50 m + k` lies in the block of 25 numbered `2 m`, and `50 m + 25 + k` in the next one. -/
theorem levelAlternatesEvery25 : Obligations.LevelAlternatesEvery25 :=
  fun _ _ _ _ => ⟨level_of_even (by omega), level_of_odd (by omega)⟩

/-- Twenty-five counter values on is the next block, whose parity is the other one. -/
theorem level_add_25 (c : Config) (n : Nat) : level c (n + 25) = -level c n := by
  obtain even | odd := Nat.mod_two_eq_zero_or_one (n / 25)
  · rw [level_of_even even, level_of_odd (by omega)]
  · rw [level_of_odd odd, level_of_even (by omega), neg_neg]

theorem gen_add_25 (c : Config) (n : Nat) (t : Fin 2) (ch : Fin 8) : gen c (n + 25) t ch = -gen c n t ch := by
  obtain low | high := lt_or_ge ch.val 4
  · rw [gen_of_lt low, gen_of_lt low, level_add_25]
  · rw [gen_of_ge high, gen_of_ge high, level_add_25]

/-- Settles O41: the period is two flips. -/
theorem batchPeriod : Obligations.BatchPeriod := by
  refine fun c n => ⟨?_, gen_add_25 c n⟩
  funext t ch
  rw [show n + 50 = n + 25 + 25 from rfl, gen_add_25, gen_add_25, neg_neg]

theorem gen_eq_mul (c : Config) (n : Nat) (t : Fin 2) (ch : Fin 8) :
    gen c n t ch = level c n * (if ch.val < 4 then 1 else -1) := by
  obtain low | high := lt_or_ge ch.val 4
  · rw [gen_of_lt low, if_pos low, mul_one]
  · rw [gen_of_ge high, if_neg (by omega), mul_neg_one]

/-- Settles O39: a sample is `A` or `-A`, and `A` is at most `2^23 - 1`. -/
theorem generatedBatch : Obligations.GeneratedBatch := by
  intro c n t ch
  obtain ⟨-, amplitude, -⟩ := Config.constraints c
  refine ⟨gen_eq_mul c n t ch, ?_, ?_, congrFun (congrFun (widened_gen c n) t) ch⟩
  · obtain h | h := gen_eq_or c n t ch <;> omega
  · obtain h | h := gen_eq_or c n t ch <;> omega

/-- Channel `c + 4` carries the negative of channel `c`. -/
theorem gen_opposite (c : Config) (n : Nat) (t : Fin 2) (ch : Nat) (h : ch < 4) :
    gen c n t ⟨ch + 4, by omega⟩ = -gen c n t ⟨ch, by omega⟩ := by
  rw [gen_of_ge (Nat.le_add_left 4 ch), gen_of_lt h]

/-- Settles O40: the magnitude does not depend on the sign, and `Gen` does not look at the instant. -/
theorem channelHalvesAreOpposite : Obligations.ChannelHalvesAreOpposite := by
  refine fun c n => ⟨fun t ch h => ?_, fun t ch => ?_, fun _ => rfl⟩
  · rw [gen_opposite c n t ch.val h, neg_neg]
  · obtain h | h := gen_eq_or c n t ch <;> simp [h]

/-- A multiple of 50 is one of 5, which divides no power of two. -/
theorem not_fifty_dvd_two_pow (w : Nat) : ¬ 50 ∣ 2 ^ w := fun h =>
  absurd (Nat.prime_five.dvd_of_dvd_pow (Dvd.dvd.trans (by decide : 5 ∣ 50) h)) (by decide)

/-- Settles O42: 4294967275 is `50 * 85899345 + 25`, so the wrap at `2^32` leaves 21 of its block of 25. -/
theorem counterWrapShortensOneLevel : Obligations.CounterWrapShortensOneLevel := by
  refine ⟨fun s conn en last => ?_, not_fifty_dvd_two_pow, fun c k hk => ?_, fun c => ⟨?_, ?_⟩, rfl⟩
  · refine ⟨_, execTick_of_gateOpen ((gateOpen_iff s).mpr ⟨conn, en⟩), ?_⟩
    rw [emit_tick, advanceCounters_tick, last, Nat.sub_add_cancel Nat.one_le_two_pow, Nat.mod_self]
  · exact (levelAlternatesEvery25 c 85899345 k (by omega)).2
  · exact (levelAlternatesEvery25 c 85899345 24 (by decide)).1
  · exact (levelAlternatesEvery25 c 0 0 (by decide)).1

end Sys2Proof.Machine
end

section
/-! Opposite samples in a frame (spec/40_sample_generator.md R82, spec/41_frame_encoder.md R86). -/

namespace Sys2Proof.Machine

/-- The three bytes of a sample in a frame, read as one number, are its 24-bit pattern. -/
theorem encodeFrame_field (c : Config) (seq : Byte) (b : Batch) (t : Fin 2) (ch : Fin 8) :
    ((encodeFrame c seq b).toList.getD (sampleOffset t ch) 0).toNat * 65536 +
      ((encodeFrame c seq b).toList.getD (sampleOffset t ch + 1) 0).toNat * 256 +
      ((encodeFrame c seq b).toList.getD (sampleOffset t ch + 2) 0).toNat = trunc 24 (b t ch) := by
  have byte (j : Nat) (hj : j < 3) :
      (encodeFrame c seq b).toList.getD (sampleOffset t ch + j) 0 = byteField (trunc 24 (b t ch)) (8 * (2 - j)) := by
    simp [encodeFrame, encodeInto_getElem?_payload blankFrame c seq b t ch j hj]
  rw [byte 1 (by decide), byte 2 (by decide), ← Nat.add_zero (sampleOffset t ch), byte 0 (by decide)]
  exact pack24_toNat (b t ch)

/-- The patterns of a number and its negative cancel. -/
theorem trunc_add_trunc_neg (n : Nat) (v : Int) : (trunc n v + trunc n (-v)) % 2 ^ n = 0 := by
  zify
  rw [trunc_eq_emod, trunc_eq_emod, ← Int.add_emod, add_neg_cancel, Int.zero_emod]

/-- A step that transmits sends the next frame of the registers before it. -/
theorem eq_nextFrame_of_step {s t : State} {f : Frame} (h : step s = .next t) (out : t.out = .tx f) :
    f = nextFrame (consumeInput s) := by
  obtain ⟨_, _, rfl⟩ | quiet := (step_effect h).transmits_cases
  · exact (Output.tx.inj out).symm
  · simp [out, transmitted] at quiet

/-- Settles O50: the two fields are the patterns of a sample and its negative. -/
theorem emittedChannelsAreOpposite : Obligations.EmittedChannelsAreOpposite := by
  intro s t f h out i ch field
  obtain rfl := eq_nextFrame_of_step h out
  have fieldOf (ch : Fin 8) :
      field (2 + 24 * i.val + 3 * ch.val) = trunc 24 (gen s.cfg s.tick i ch) := by
    simp only [field, nextFrame_eq]
    exact encodeFrame_field ..
  have low := fieldOf ⟨ch.val, by omega⟩
  have high := fieldOf ⟨ch.val + 4, by omega⟩
  rw [low, high, gen_opposite s.cfg s.tick i ch.val ch.isLt]
  exact trunc_add_trunc_neg 24 _

end Sys2Proof.Machine
end

section
/-! The counters at the end of a run without a `RESET` (spec/41_frame_encoder.md R89, spec/43_dispatch.md R125). -/

namespace Sys2Proof.Machine

/-- A counter plus the number of frames still to come is the same before and after any operation but `RESET`. -/
theorem Effect.counters_add_frames {s t : State} {i : Instr} (e : Effect s i t) (hi : i ≠ .reset) (ts : List State) :
    t.seq + BitVec.ofNat 8 (frames ts).length = s.seq + BitVec.ofNat 8 (frames (t :: ts)).length ∧
    (t.tick + (frames ts).length) % 2 ^ s.cfg.tickWidth = (s.tick + (frames (t :: ts)).length) % 2 ^ s.cfg.tickWidth := by
  obtain ⟨-, -, rfl⟩ | quiet := e.transmits_cases
  · rw [frames_cons_tx ts (emit_out _ _), List.length_cons, emit_seq, emit_tick, advanceCounters_seq, advanceCounters_tick,
      Nat.mod_add_mod, BitVec.ofNat_add, add_comm (BitVec.ofNat 8 _), add_right_comm s.tick 1]
    exact ⟨add_assoc s.seq 1 _, rfl⟩
  · obtain ⟨hseq, htick⟩ := e.counters_kept hi quiet
    rw [frames_cons_other ts quiet, hseq, htick]
    exact ⟨rfl, rfl⟩

/-- By induction on the steps: the counters have advanced by the number of frames sent. -/
theorem after_counters (k : Nat) {s : State} (inv : ReachableInv s) (noReset : ∀ w ∈ s.inputs, decode w ≠ .reset) :
    (after k s).seq = s.seq + BitVec.ofNat 8 (frames (trace k s)).length ∧
    (after k s).tick = (s.tick + (frames (trace k s)).length) % 2 ^ s.cfg.tickWidth := by
  induction k generalizing s with
  | zero => exact ⟨(BitVec.add_zero s.seq).symm, (Nat.mod_eq_of_lt inv.tickInRange).symm⟩
  | succ k ih =>
    obtain ⟨t, h⟩ := step_completes s
    have e := step_effect h
    obtain ⟨hcfg, hinputs⟩ := e.frame
    have noReset' : ∀ w ∈ t.inputs, decode w ≠ .reset := fun w hw =>
      noReset w (List.mem_of_mem_tail (by rwa [hinputs] at hw))
    obtain ⟨hseq, htick⟩ := ih (stepKeepsInvariant s t inv h) noReset'
    obtain ⟨seqSum, tickSum⟩ := e.counters_add_frames (decode_sampledWord_ne_reset noReset) (trace k t)
    rw [after_succ k h, trace_succ k h]
    rw [hcfg] at htick
    exact ⟨hseq.trans seqSum, htick.trans tickSum⟩

/-- Settles O35: the numbering of a run, started from two counters at 0. -/
theorem framesCountedFromReset : Obligations.FramesCountedFromReset := by
  intro c ws noReset s n
  have inv : ReachableInv s := { reachableInv_resetWith c with }
  obtain ⟨hseq, htick⟩ := after_counters s.inputs.length inv noReset
  refine ⟨?_, ?_, ?_⟩
  · simpa [s, n] using framesAreNumberedConsecutively s inv noReset
  · exact htick.trans (by rw [resetWith_tick, Nat.zero_add]; rfl)
  · refine hseq.trans (BitVec.eq_of_toNat_eq ?_)
    simp [s, n, runOf]

end Sys2Proof.Machine
end

section
/-! A frame depends on the 24-bit patterns of its samples alone (spec/41_frame_encoder.md R85, R92,
spec/92_eei_decisions.md D15). -/

namespace Sys2Proof.Machine

theorem trunc_eq_trunc_iff (n : Nat) (v v' : Int) : trunc n v = trunc n v' ↔ v % 2 ^ n = v' % 2 ^ n := by
  rw [← trunc_eq_emod, ← trunc_eq_emod, Nat.cast_inj]

/-- Reading a pattern as two's complement changes it by a multiple of `2^n` at most. -/
theorem sext_emod (n p : Nat) : sext n p % 2 ^ n = (p : Int) % 2 ^ n := by
  unfold sext
  split
  · rfl
  · exact Int.sub_emod_right ..

/-- A signed input keeps as many low bits as it is wide. -/
theorem sampleIn_emod (w : Nat) (v : Int) : sampleIn w v % 2 ^ w = v % 2 ^ w := by
  rw [sampleIn, sext_emod, trunc_eq_emod, Int.emod_emod_of_dvd v dvd_rfl]

theorem trunc_sampleIn {n w : Nat} (h : n ≤ w) (v : Int) : trunc n (sampleIn w v) = trunc n v := by
  have dvd : (2 : Int) ^ n ∣ 2 ^ w := pow_dvd_pow 2 h
  rw [trunc_eq_trunc_iff, ← Int.emod_emod_of_dvd _ dvd, sampleIn_emod, Int.emod_emod_of_dvd _ dvd]

/-- `Encode` takes nothing from a sample but its 24-bit pattern. -/
theorem encodeFrame_congr (c : Config) (seq : Byte) {b b' : Batch} (h : ∀ t ch, trunc 24 (b t ch) = trunc 24 (b' t ch)) :
    encodeFrame c seq b = encodeFrame c seq b' := by
  have turn : encodeSample b = encodeSample b' := by
    funext acc t ch
    simp only [encodeSample, pack24, h]
  simp only [encodeFrame, encodeInto, encodeSamples, turn]

/-- Settles O44: the low 24 bits are among those the input keeps. -/
theorem sampleWidthIsImmaterial : Obligations.SampleWidthIsImmaterial := by
  refine ⟨fun w v h => trunc_sampleIn h v, fun c seq b => encodeFrame_congr c seq fun t ch => ?_⟩
  obtain ⟨-, -, -, -, -, -, width⟩ := Config.constraints c
  exact trunc_sampleIn width (b t ch)

/-- Settles O46: offset 1 gives the sequence number back, and each sample's three bytes its pattern. -/
theorem frameDeterminesItsContents : Obligations.FrameDeterminesItsContents := by
  intro c seq seq' b b'
  simp only [← trunc_eq_trunc_iff]
  constructor
  · intro same
    refine ⟨?_, fun t ch => ?_⟩
    · calc seq = (encodeFrame c seq b)[1] := (encodeInto_seq ..).symm
        _ = (encodeFrame c seq' b')[1] := by rw [same]
        _ = seq' := encodeInto_seq ..
    · rw [← encodeFrame_field c seq b t ch, same, encodeFrame_field]
  · rintro ⟨rfl, samples⟩
    exact encodeFrame_congr c seq samples

end Sys2Proof.Machine
end

section
/-! The checksum of a frame (spec/41_frame_encoder.md R87). -/

namespace Sys2Proof.Machine

/-- The payload, byte by byte from offset 2. -/
theorem payload_eq_map_range (f : Frame) : payload f = (List.range 48).map fun k => f.toList.getD (2 + k) 0 := by
  refine List.ext_getElem (by simp [payload]) fun k hk _ => ?_
  have inside : k < 48 := by simpa [payload] using hk
  rw [List.getElem_map, List.getElem_range, List.getD_eq_getElem _ _ (by rw [Vector.length_toList]; omega)]
  simp [payload]

theorem payload_sum (f : Frame) :
    ((payload f).map BitVec.toNat).sum = ((List.range 48).map fun k => (f.toList.getD (2 + k) 0).toNat).sum := by
  rw [payload_eq_map_range, List.map_map]
  rfl

theorem payload_sum_le (f : Frame) : ((payload f).map BitVec.toNat).sum ≤ 12240 := by
  have byte : ∀ x ∈ (payload f).map BitVec.toNat, x ≤ 255 := by
    simp only [List.forall_mem_map]
    exact fun b _ => Nat.le_of_lt_succ b.isLt
  simpa [payload] using List.sum_le_card_nsmul _ _ byte

/-- A byte outside offsets 2 to 49 is none of the payload. -/
theorem payload_set (f : Frame) (i : Nat) (b : Byte) (hi : i < 52) (out : i < 2 ∨ 50 ≤ i) :
    payload (f.set i b) = payload f := by
  rw [payload_eq_map_range, payload_eq_map_range]
  refine List.map_congr_left fun k hk => ?_
  have inside : k < 48 := List.mem_range.mp hk
  have other : i ≠ 2 + k := by omega
  simp [Vector.getElem?_set_ne hi other]

theorem checksum_set (f : Frame) (i : Nat) (b : Byte) (hi : i < 52) (out : i < 2 ∨ 50 ≤ i) :
    checksum (f.set i b) = checksum f := by
  rw [checksum, payload_set f i b hi out, checksum]

/-- An accumulator that wraps on every addition holds the wrapped sum. -/
theorem foldl_add_eq_ofNat_sum (bs : List Byte) (acc : Byte) :
    bs.foldl (· + ·) acc = acc + BitVec.ofNat 8 (bs.map BitVec.toNat).sum := by
  induction bs generalizing acc with
  | nil => exact (BitVec.add_zero acc).symm
  | cons b bs ih =>
    rw [List.foldl_cons, ih, List.map_cons, List.sum_cons, BitVec.ofNat_add, BitVec.ofNat_toNat, BitVec.setWidth_eq,
      add_assoc]

/-- Settles O48: each of the 48 bytes is at most 255, and the four others are outside the payload. -/
theorem checksumIsWrappingByteSum : Obligations.ChecksumIsWrappingByteSum := by
  refine fun f => ⟨?_, payload_sum_le f, ?_, fun b => ⟨?_, ?_, ?_, ?_⟩⟩
  · rw [checksum, BitVec.toNat_ofNat, payload_sum]
  · rw [foldl_add_eq_ofNat_sum, checksum]
    exact BitVec.zero_add _
  · exact checksum_set f 0 b (by decide) (.inl (by decide))
  · exact checksum_set f 1 b (by decide) (.inl (by decide))
  · exact checksum_set f 50 b (by decide) (.inr (by decide))
  · exact checksum_set f 51 b (by decide) (.inr (by decide))

end Sys2Proof.Machine
end

section
/-! The frames of generated batches (spec/41_frame_encoder.md R94). -/

namespace Sys2Proof.Machine

/-- What a sample adds to the payload sum: its three bytes. -/
def sampleSum (v : Int) : Nat := (pack24 v).1.toNat + (pack24 v).2.1.toNat + (pack24 v).2.2.toNat

/-- The payload sum of a frame, sample by sample. -/
theorem encodeFrame_payload_sum (c : Config) (seq : Byte) (b : Batch) :
    ((payload (encodeFrame c seq b)).map BitVec.toNat).sum =
      (instants.map fun t => (channels.map fun ch => sampleSum (b t ch)).sum).sum := by
  rw [payload_sum, encodeFrame, encodeInto_payload_sum, encodeSamples_sum, Nat.zero_add]
  rfl

/-- `Encode` writes the checksum of the frame it returns. -/
theorem encodeFrame_checksum (c : Config) (seq : Byte) (b : Batch) :
    (encodeFrame c seq b)[50] = checksum (encodeFrame c seq b) := by
  rw [checksum, payload_sum, encodeFrame, encodeInto_payload_sum, encodeInto_checksum]

/-- At either level eight of the samples are `A` and eight are `-A`. -/
theorem payload_sum_gen (c : Config) (seq : Byte) (n : Nat) :
    ((payload (encodeFrame c seq (gen c n))).map BitVec.toNat).sum =
      8 * sampleSum c.amplitude + 8 * sampleSum (-c.amplitude) := by
  have halves : ((payload (encodeFrame c seq (gen c n))).map BitVec.toNat).sum =
      8 * sampleSum (level c n) + 8 * sampleSum (-level c n) := by
    rw [encodeFrame_payload_sum]
    simp [instants, channels, gen]
    ring
  obtain even | odd := Nat.mod_two_eq_zero_or_one (n / 25)
  · rw [halves, level_of_even even]
  · rw [halves, level_of_odd odd, neg_neg, add_comm]

/-- Equal samples have equal bytes, also at different places of different frames. -/
theorem encodeFrame_getElem?_congr (c : Config) (seq seq' : Byte) {b b' : Batch} {t t' : Fin 2} {ch ch' : Fin 8}
    (same : b t ch = b' t' ch') (j : Fin 3) :
    (encodeFrame c seq b)[2 + 24 * t.val + 3 * ch.val + j.val]? =
      (encodeFrame c seq' b')[2 + 24 * t'.val + 3 * ch'.val + j.val]? := by
  rw [encodeFrame_getElem?_payload c seq b t ch j j.isLt, encodeFrame_getElem?_payload c seq' b' t' ch' j j.isLt, same]

/-- At the opposite level each channel carries what the channel four places on or back carried. -/
theorem gen_of_opposite_level {c : Config} {n n' : Nat} (opposite : level c n' = -level c n) (t : Fin 2) (ch : Fin 4) :
    gen c n' t ⟨ch.val, by omega⟩ = gen c n t ⟨ch.val + 4, by omega⟩ ∧
    gen c n' t ⟨ch.val + 4, by omega⟩ = gen c n t ⟨ch.val, by omega⟩ := by
  have low (m : Nat) : gen c m t ⟨ch.val, by omega⟩ = level c m := gen_of_lt ch.isLt c m t
  have high (m : Nat) : gen c m t ⟨ch.val + 4, by omega⟩ = -level c m := gen_of_ge (Nat.le_add_left 4 ch.val) c m t
  rw [low, low, high, high, opposite, neg_neg]
  exact ⟨rfl, rfl⟩

/-- Settles O49: the payload sum is a function of the amplitude alone. -/
theorem generatedFramesShareOneChecksum : Obligations.GeneratedFramesShareOneChecksum := by
  intro c seq seq' n n' f f'
  have sums : ((payload f).map BitVec.toNat).sum = ((payload f').map BitVec.toNat).sum := by
    rw [payload_sum_gen, payload_sum_gen]
  refine ⟨sums, ?_, fun opposite t ch j => ?_, fun largest => ?_⟩
  · rw [encodeFrame_checksum, encodeFrame_checksum, checksum, sums, checksum]
  · obtain ⟨low, high⟩ := gen_of_opposite_level opposite t ch
    exact ⟨encodeFrame_getElem?_congr c seq' seq low j, encodeFrame_getElem?_congr c seq' seq high j⟩
  · have sum : ((payload f).map BitVec.toNat).sum = 6128 := by
      rw [payload_sum_gen, largest]
      decide
    rw [encodeFrame_checksum, checksum, sum]
    exact ⟨rfl, rfl⟩

end Sys2Proof.Machine
end

section
/-! The operation a winning strobe selects (spec/30_encoding.md R58). -/

namespace Sys2Proof

theorem decode_word_of_disconnect {p : InputPins} (rst : p.rst = false) (disc : p.evDisconnect = true) :
    decode p.word = .disconnect := by
  simp [decode_word, rst, disc]

theorem decode_word_of_connect {p : InputPins} (rst : p.rst = false) (disc : p.evDisconnect = false)
    (conn : p.evConnect = true) : decode p.word = .connect := by
  simp [decode_word, rst, disc, conn]

/-- Where `rx_valid` wins, the byte alone selects. -/
theorem decode_word_of_received {p : InputPins} (rst : p.rst = false) (disc : p.evDisconnect = false)
    (conn : p.evConnect = false) (rx : p.rxValid = true) : decode p.word =
    if p.rxByte = 0x62 then .cmdB else if p.rxByte = 0x73 then .cmdS else if p.rxByte = 0x64 then .cmdD
    else .cmdIgn p.rxByte := by
  simp only [decode_word, rst, disc, conn, rx, Bool.false_eq_true, if_false, if_true]

end Sys2Proof
end

section
/-! The link events, and the controller while disconnected (spec/42_power_mode_controller.md R106 to R108). -/

namespace Sys2Proof.Machine

/-- While disconnected no operation branches on `MODE`: a tick finds the gate closed, a command is ignored, and every other
operation forces the mode or leaves it. -/
theorem Effect.withMode_of_disconnected {s t : State} {i : Instr} (e : Effect s i t) (conn : s.conn = false) (m : Mode) :
    ∃ t', exec i { s with mode := m } = .next t' ∧ { t' with mode := t.mode } = t := by
  cases i with
  | tick =>
    have closed : gateOpen s = false := by rw [gateOpen, conn, Bool.false_and]
    obtain rfl := e.tick_of_gateClosed closed
    exact ⟨_, execTick_of_gateClosed (s := { s with mode := m }) closed, rfl⟩
  | cmdB | cmdS | cmdD =>
    obtain rfl := e
    rw [command_disconnected _ s conn]
    exact ⟨_, congrArg Host.Outcome.next (command_disconnected _ { s with mode := m } conn), rfl⟩
  | reset | disconnect | connect | cmdIgn _ | nop => obtain rfl := e; exact ⟨_, rfl, rfl⟩

/-- Settles O14: `DISCONNECT` forces the three registers, so a second one and a `TICK` find nothing left to change. -/
theorem disconnectForcesIdle : Obligations.DisconnectForcesIdle := by
  refine ⟨fun p => decode_word_of_disconnect, fun s => rfl, fun s t h => ?_, fun i s t m conn h => ?_⟩
  · obtain rfl : t = _ := exec_effect h
    exact ⟨rfl, execTick_of_gateClosed rfl⟩
  · exact (exec_effect h).withMode_of_disconnected conn m

/-- Settles O13: `execConnect` writes the state out. -/
theorem connectForcesStreaming : Obligations.ConnectForcesStreaming :=
  ⟨fun _ => decode_word_of_connect, fun _ => rfl⟩

theorem exec_commands_disconnected {s : State} (conn : s.conn = false) :
    exec .cmdB s = .next { s with out := .silent } ∧ exec .cmdS s = .next { s with out := .silent } ∧
      exec .cmdD s = .next { s with out := .silent } :=
  ⟨congrArg _ (command_disconnected .streaming s conn), congrArg _ (command_disconnected .idle s conn),
    congrArg _ (command_disconnected .sleep s conn)⟩

/-- Settles O16: the byte is one of the three commands, ignored while disconnected, or selects `CMD_IGN`. -/
theorem bytesIgnoredWhileDisconnected : Obligations.BytesIgnoredWhileDisconnected := by
  intro s p ws conn hs rst disc evConn rx
  obtain ⟨ignoredB, ignoredS, ignoredD⟩ := exec_commands_disconnected (s := { s with inputs := ws }) conn
  rw [step_of_cons hs, decode_word_of_received rst disc evConn rx]
  split_ifs
  · exact ignoredB
  · exact ignoredS
  · exact ignoredD
  · rfl

/-- Settles O17: a byte that is none of the three falls through to the last line of the selection. -/
theorem unrecognisedByteDoesNothing : Obligations.UnrecognisedByteDoesNothing := by
  refine ⟨fun p rst disc conn rx notB notS notD => ?_, fun b s => rfl⟩
  rw [decode_word_of_received rst disc conn rx, if_neg notB, if_neg notS, if_neg notD]

end Sys2Proof.Machine
end

section
/-! The commands while connected, and the requests (spec/42_power_mode_controller.md R101 to R104, R109, R111). -/

namespace Sys2Proof.Machine

theorem command_connected (m : Mode) {s : State} (conn : s.conn = true) :
    command m s = emit (if s.mode = m then .silent else .req (intervalOf s.cfg m)) (setMode m s) := if_pos conn

/-- Settles O15: the three commands are one command at three modes, and `Idle` closes the gate. -/
theorem commandsSetModeAndGate : Obligations.CommandsSetModeAndGate := by
  refine ⟨fun p rst disc evConn rx => ?_, fun s conn => ?_, fun s => exec_commands_disconnected, fun s t _ h => ?_⟩
  · rw [decode_word_of_received rst disc evConn rx]
    refine ⟨fun isB => ?_, fun isS => ?_, fun isD => ?_⟩
    · rw [isB]; rfl
    · rw [isS]; rfl
    · rw [isD]; rfl
  · exact ⟨congrArg _ (command_connected .streaming conn), congrArg _ (command_connected .idle conn),
      congrArg _ (command_connected .sleep conn)⟩
  · obtain ⟨closed, -, -⟩ := (exec_effect h).closes_gate (.inl rfl)
    exact execTick_of_gateClosed closed

theorem command_requests_iff (m : Mode) (s : State) (v : Nat) :
    (command m s).out = .req v ↔ (s.conn = true ∧ s.mode ≠ m) ∧ v = intervalOf s.cfg (command m s).mode := by
  obtain ⟨conn, eq⟩ | ⟨_, same, eq⟩ | ⟨conn, other, eq⟩ := command_cases m s
  · simp [eq, conn]
  · simp [eq, same]
  · simp [eq, conn, other, eq_comm (a := v)]

/-- The operations that request an interval: `CONNECT`, and a command executed while connected that changes the mode. -/
theorem Effect.requests_iff {s t : State} {i : Instr} (e : Effect s i t) (v : Nat) :
    t.out = .req v ↔
      (i = .connect ∨ (s.conn = true ∧
        ((i = .cmdB ∧ s.mode ≠ .streaming) ∨ (i = .cmdS ∧ s.mode ≠ .idle) ∨ (i = .cmdD ∧ s.mode ≠ .sleep)))) ∧
        v = intervalOf s.cfg t.mode := by
  cases i with
  | connect => obtain rfl := e; simp [eq_comm (a := v)]
  | cmdB | cmdS | cmdD => obtain rfl := e; simp [command_requests_iff]
  | tick => obtain ⟨_, rfl⟩ | ⟨_, rfl⟩ := e <;> simp
  | reset | disconnect | cmdIgn _ | nop => obtain rfl := e; simp

/-- Settles O19: a step has the effect of the operation its word selects, on the same registers. -/
theorem requestsExactlyOnModeChange : Obligations.RequestsExactlyOnModeChange := by
  intro s
  obtain ⟨t, h⟩ := step_completes s
  exact ⟨t, h, (step_effect h).requests_iff⟩

/-- Settles O18: with the three registers known, each of the 25 entries computes for every value of the other fields. -/
theorem transitionTable : Obligations.TransitionTable := by
  rintro row mem s ctl
  obtain ⟨t, ticked⟩ := exec_completes .tick s
  obtain ⟨conn, mode, en⟩ := (exec_effect ticked).tick_controller
  refine ⟨?_, fun b => rfl, ⟨t, ticked, ?_⟩, ⟨_, rfl, ctl⟩, ⟨_, rfl, rfl⟩⟩
  · obtain ⟨cfg, cn, m, e, seq, tick, out, inputs⟩ := s
    simp only [List.mem_cons, List.not_mem_nil, or_false] at mem
    obtain rfl | rfl | rfl | rfl | rfl := mem
    all_goals
      obtain ⟨rfl, rfl, rfl⟩ : cn = _ ∧ m = _ ∧ e = _ := by simpa using ctl
      simp only [List.forall_mem_cons, List.not_mem_nil, false_imp_iff, implies_true, and_true]
      exact ⟨rfl, rfl, rfl, rfl, rfl⟩
  · rw [conn, mode, en, ctl]

end Sys2Proof.Machine
end

section
/-! A run and the run over those of its words that do not select `NOP` (spec/43_dispatch.md R121). -/

namespace Sys2Proof.Machine

theorem runOf_cons {s t : State} {w : Evt13} (ws : List Evt13) (h : exec (decode w) s = .next t) :
    runOf { s with inputs := w :: ws } = { t with inputs := ws } :: runOf { t with inputs := ws } :=
  trace_succ ws.length (step_withInputs_cons ws h)

/-- The events of a run look at nothing in its states but the output. -/
theorem events_cons_congr {t u : State} {ts us : List State} (out : t.out = u.out) (later : events ts = events us) :
    events (t :: ts) = events (u :: us) := by
  by_cases silent : u.out = .silent
  · rw [events_cons_silent ts (out.trans silent), events_cons_silent us silent, later]
  · rw [events_cons_other ts (out ▸ silent), events_cons_other us silent, out, later]

/-- States that differ in their output have the same next state, so a run from them ends in states that differ in it at
most. -/
theorem after_emit (k : Nat) (o : Output) (s : State) :
    emit .silent (after k (emit o s)) = emit .silent (after k s) := by
  cases k with
  | zero => rfl
  | succ k =>
    obtain ⟨t, h⟩ := step_completes s
    rw [after_succ k h, after_succ k ((step_emit o s).trans h)]

/-- By induction on the words: a `NOP` clears the output, which nothing reads; any other word is in both lists, and both
runs do the same step with it. -/
theorem run_filter_nop (s : State) (ws : List Evt13) :
    events (runOf { s with inputs := ws }) =
      events (runOf { s with inputs := ws.filter fun w => decode w ≠ .nop }) ∧
    emit .silent (endOf { s with inputs := ws }) =
      emit .silent (endOf { s with inputs := ws.filter fun w => decode w ≠ .nop }) := by
  induction ws generalizing s with
  | nil => exact ⟨rfl, rfl⟩
  | cons w ws ih =>
    obtain ⟨t, h⟩ := exec_completes (decode w) s
    rw [runOf_cons ws h, endOf_cons ws h]
    by_cases nop : decode w = .nop
    · rw [List.filter_cons_of_neg (by simp [nop])]
      obtain rfl : t = emit .silent s := by rw [nop] at h; exact exec_effect h
      obtain ⟨sameEvents, sameEnd⟩ := ih s
      rw [events_cons_silent _ rfl]
      exact ⟨(congrArg events (trace_emit ws.length .silent { s with inputs := ws })).trans sameEvents,
        (after_emit ws.length .silent { s with inputs := ws }).trans sameEnd⟩
    · rw [List.filter_cons_of_pos (by simp [nop]), runOf_cons _ h, endOf_cons _ h]
      obtain ⟨sameEvents, sameEnd⟩ := ih t
      exact ⟨events_cons_congr rfl sameEvents, sameEnd⟩

/-- Settles O36: a state is itself with the words it lists. -/
theorem nopStepsAreImmaterial : Obligations.NopStepsAreImmaterial :=
  fun s => run_filter_nop s s.inputs

end Sys2Proof.Machine
end

section
/-! Runs behind a closed gate (spec/43_dispatch.md R122, R125). -/

namespace Sys2Proof.Machine

theorem command_en (m : Mode) (s : State) : (command m s).en = if s.conn then gateOf m else s.en := by
  unfold command
  split <;> rfl

/-- `CMD_B` alone opens the gate. -/
theorem Effect.keeps_gate_closed {s t : State} {i : Instr} (e : Effect s i t) (hi : i ≠ .cmdB) (closed : s.en = false) :
    t.en = false := by
  cases i with
  | cmdB => exact absurd rfl hi
  | cmdS | cmdD => obtain rfl := e; simp [command_en, closed]
  | tick =>
    obtain ⟨-, -, en⟩ := e.tick_controller
    rw [en, closed]
  | reset | disconnect | connect => obtain rfl := e; rfl
  | cmdIgn _ | nop => obtain rfl := e; exact closed

theorem Effect.transmits_nothing_of_closed {s t : State} {i : Instr} (e : Effect s i t) (closed : s.en = false) :
    transmitted t.out = none := by
  obtain ⟨-, opened, -⟩ | quiet := e.transmits_cases
  · simp [gateOpen, closed] at opened
  · exact quiet

/-- By induction on the words: every step finds the gate closed, sends nothing and leaves it closed. -/
theorem run_of_gate_closed {s : State} (ws : List Evt13) (closed : s.en = false) (noBegin : ∀ w ∈ ws, decode w ≠ .cmdB) :
    frames (runOf { s with inputs := ws }) = [] ∧ (endOf { s with inputs := ws }).en = false := by
  induction ws generalizing s with
  | nil => exact ⟨rfl, closed⟩
  | cons w ws ih =>
    obtain ⟨t, h⟩ := exec_completes (decode w) s
    have e := exec_effect h
    obtain ⟨notB, later⟩ := List.forall_mem_cons.mp noBegin
    have quiet : transmitted t.out = none := e.transmits_nothing_of_closed closed
    obtain ⟨noFrame, stillClosed⟩ := ih (e.keeps_gate_closed notB closed) later
    rw [runOf_cons ws h, endOf_cons ws h]
    exact ⟨(frames_cons_other _ quiet).trans noFrame, stillClosed⟩

/-- Settles O37: the gate is closed before every step of the run over the listed words. -/
theorem noFrameBeforeBegin : Obligations.NoFrameBeforeBegin :=
  fun s => run_of_gate_closed s.inputs

/-- By induction on the ticks: each finds the gate closed and leaves everything but the output and the list as it was. -/
theorem runOf_gated_ticks {s : State} (n : Nat) (closed : gateOpen s = false) :
    ∀ t ∈ runOf { s with inputs := List.replicate n 0x0100 }, t.seq = s.seq ∧ t.tick = s.tick ∧ t.out = .silent := by
  induction n generalizing s with
  | zero => exact fun _ mem => absurd mem List.not_mem_nil
  | succ n ih =>
    have h : exec (decode 0x0100) s = .next (emit .silent s) := execTick_of_gateClosed closed
    rw [List.replicate_succ, runOf_cons _ h, List.forall_mem_cons]
    exact ⟨⟨rfl, rfl, rfl⟩, ih (s := emit .silent s) closed⟩

theorem frames_eq_nil_of_silent {ts : List State} (silent : ∀ t ∈ ts, t.out = .silent) : frames ts = [] :=
  List.filterMap_eq_nil_iff.mpr fun t mem => by rw [silent t mem]; rfl

/-- Settles O22: a run all of whose steps are silent has no frame. -/
theorem gatedTicksDoNothing : Obligations.GatedTicksDoNothing := by
  intro s n gate hs
  have closed : gateOpen s = false := Bool.and_eq_false_iff.mpr gate
  have kept := runOf_gated_ticks n closed
  rw [← hs] at kept
  refine ⟨frames_eq_nil_of_silent fun t mem => ?_, kept⟩
  obtain ⟨-, -, silent⟩ := kept t mem
  exact silent

end Sys2Proof.Machine
end

section
/-! `TICK` and `NOP` (spec/43_dispatch.md R120, R121). -/

namespace Sys2Proof.Machine

/-- Where no strobe above `tick` is set, `tick` alone selects. -/
theorem decode_word_of_no_event {p : InputPins} (rst : p.rst = false) (disc : p.evDisconnect = false)
    (conn : p.evConnect = false) (rx : p.rxValid = false) : decode p.word = if p.tick then .tick else .nop := by
  simp [decode_word, rst, disc, conn, rx]

/-- Settles O23: `execNop` writes the state out. -/
theorem nopDoesNothing : Obligations.NopDoesNothing := by
  refine ⟨fun p rst disc conn rx tick => ?_, fun s => rfl⟩
  rw [decode_word_of_no_event rst disc conn rx, tick]
  rfl

/-- `SEQ + 1` in eight bits is the sum modulo 256. -/
theorem seq_add_one (seq : BitVec 8) : seq + 1 = BitVec.ofNat 8 ((seq.toNat + 1) % 256) := by
  apply BitVec.eq_of_toNat_eq
  simp [BitVec.toNat_add]

/-- Settles O21: the two sides of the gate, with the frame as `Encode` of the batch before the encoder's input. -/
theorem tickEmitsOneFrame : Obligations.TickEmitsOneFrame := by
  refine ⟨fun p rst disc conn rx tick => ?_, fun s conn en => ?_, fun s closed => ?_⟩
  · rw [decode_word_of_no_event rst disc conn rx, tick]
    rfl
  · rw [← nextFrame_eq, ← seq_add_one]
    exact execTick_of_gateOpen ((gateOpen_iff s).mpr ⟨conn, en⟩)
  · exact execTick_of_gateClosed (Bool.eq_false_iff.mpr (mt (gateOpen_iff s).mp closed))

/-- The one operation that transmits, and the frame it sends. -/
theorem Effect.transmits_iff {s t : State} {i : Instr} (e : Effect s i t) (f : Frame) :
    t.out = .tx f ↔ i = .tick ∧ s.conn = true ∧ s.en = true ∧ f = encodeFrame s.cfg s.seq (gen s.cfg s.tick) := by
  rw [← nextFrame_eq]
  constructor
  · intro out
    obtain ⟨rfl, opened, rfl⟩ | quiet := e.transmits_cases
    · obtain ⟨conn, en⟩ := (gateOpen_iff s).mp opened
      exact ⟨rfl, conn, en, (Output.tx.inj out).symm⟩
    · simp [out, transmitted] at quiet
  · rintro ⟨rfl, conn, en, rfl⟩
    rw [e.tick_of_gateOpen ((gateOpen_iff s).mpr ⟨conn, en⟩), emit_out]

/-- Settles O24: a step has the effect of the operation its word selects, on the same registers. -/
theorem transmitsExactlyOnOpenTick : Obligations.TransmitsExactlyOnOpenTick := by
  intro s
  obtain ⟨t, h⟩ := step_completes s
  exact ⟨t, h, (step_effect h).transmits_iff⟩

end Sys2Proof.Machine
end

section
/-! `RESET` (spec/70_reset_and_hazards.md R150). -/

namespace Sys2Proof.Machine

theorem decode_word_of_reset {p : InputPins} (rst : p.rst = true) : decode p.word = .reset := by
  rw [decode_word, if_pos rst]

/-- What `RESET` leaves is already what a second one would leave. -/
theorem exec_reset_idempotent {s t : State} (h : exec .reset s = .next t) : exec .reset t = .next t := by
  obtain rfl : t = _ := exec_effect h
  rfl

/-- Apart from `RESET`, an operation keeps both counters or advances both. -/
theorem Effect.counters_kept_or_advanced {s t : State} {i : Instr} (e : Effect s i t) (notReset : i ≠ .reset) :
    (t.seq = s.seq ∧ t.tick = s.tick) ∨ (t.seq = s.seq + 1 ∧ t.tick = (s.tick + 1) % 2 ^ s.cfg.tickWidth) := by
  obtain ⟨reset, _, _⟩ | ⟨_, _, rfl⟩ | kept := e.counters_cases
  · exact absurd reset notReset
  · exact .inr ⟨rfl, rfl⟩
  · exact .inl kept

/-- Settles O11: `execReset` writes the state out, and the counters are kept or advanced together. -/
theorem resetForcesEveryRegister : Obligations.ResetForcesEveryRegister := by
  refine ⟨fun _ => decode_word_of_reset, fun _ => rfl, fun _ _ => exec_reset_idempotent, fun i s t h notReset => ?_⟩
  obtain ⟨seq, tick⟩ | ⟨seq, tick⟩ := (exec_effect h).counters_kept_or_advanced notReset
  · exact ⟨.inl seq, .inl tick⟩
  · exact ⟨.inr seq, .inr tick⟩

end Sys2Proof.Machine
end

section
/-! What the disconnected block waits for (spec/42_power_mode_controller.md R107, R108, spec/43_dispatch.md R122). -/

namespace Sys2Proof.Machine

/-- Forcing the controller to where it already is writes nothing new. -/
theorem forceController_self {s : State} {cn : Bool} {m : Mode} {e : Bool} (conn : s.conn = cn) (mode : s.mode = m)
    (en : s.en = e) : forceController cn m e s = s := by
  subst conn mode en
  rfl

/-- A disconnected block of the invariant is already where `DISCONNECT` would force it, ignores the commands, and finds the
gate closed at a `TICK`. -/
theorem Effect.eq_silent_of_disconnected {s t : State} {i : Instr} (e : Effect s i t) (inv : ReachableInv s)
    (conn : s.conn = false) (notConnect : i ≠ .connect) (notReset : i ≠ .reset) : t = emit .silent s := by
  cases i with
  | connect => exact absurd rfl notConnect
  | reset => exact absurd rfl notReset
  | disconnect =>
    obtain ⟨mode, en⟩ := inv.disconnected conn
    obtain rfl := e
    rw [forceController_self conn mode en]
  | cmdB | cmdS | cmdD =>
    obtain rfl := e
    exact command_disconnected _ s conn
  | tick =>
    have closed : gateOpen s = false := by rw [gateOpen, conn, Bool.false_and]
    exact e.tick_of_gateClosed closed
  | cmdIgn _ | nop => exact e

/-- Settles O28: emitting nothing over the state found is that state with the output `silent`. -/
theorem disconnectedBlockWaits : Obligations.DisconnectedBlockWaits :=
  fun _ _ _ inv conn h => (exec_effect h).eq_silent_of_disconnected inv conn

end Sys2Proof.Machine
end
